-- ==== Sys2Proof/Word.lean ====
section
/-! DEFINITION. The two word types of the block (00_scope.md R6): 8-bit data, 16-bit addresses. -/

namespace Sys2Proof

/-- An 8-bit quantity, "held mod 256" (R6). -/
abbrev Byte := BitVec 8

/-- A 16-bit quantity, "held mod 65536" (R6). -/
abbrev Word := BitVec 16

end Sys2Proof
end

