-- ==== Sys2Proof/Machine/Bytes.lean ====
section
/-! DEFINITION. Byte order, bit slices and sign extension (00_scope.md R9, R13). -/

namespace Sys2Proof

/-- `{h, l}`: two bytes as one 16-bit value, `h` in the high bits (R9). -/
def joinBytes (h l : Byte) : Word := h ++ l

/-- `w[15:8]` (R9). -/
def hiByte (w : Word) : Byte := w.extractLsb' 8 8

/-- `w[7:0]` (R9). -/
def loByte (w : Word) : Byte := w.extractLsb' 0 8

/-- `sext_16(e)`: `e` if `e < 128`, else `e + 0xFF00` (R13). -/
def signExtend16 (e : Byte) : Word :=
  if e.toNat < 128 then e.setWidth 16 else e.setWidth 16 + 0xFF00#16

/-- "Booleans convert to bits as false = 0, true = 1" (R9). -/
def bitOf (b : Bool) : BitVec 1 := BitVec.ofBool b

end Sys2Proof
end

