-- ==== Sys2Proof/Machine/State.lean ====
section
/-! DEFINITION. The state of the block (10_state.md R20 to R54): the CPU's registers and run state, the bus
with the cartridge, the byte storage and the display copies, the outputs of a step, and the environment's
coming moves. Plain data throughout. The grouping CPU / bus follows the ownership rule R2. -/

namespace Sys2Proof.Machine

/-- Byte storage by address: strictly rising addresses, no entry equal to `Memory.unlisted` (`Memory.wf`). -/
abbrev Memory := List Host.Cell

/-- The three fault kinds (60_exceptions.md R320, R325). -/
inductive FaultKind where
  /-- an unassigned first opcode byte was executed (R321) -/
  | unimplementedOpcode
  /-- HALT was executed with IME = 0 (R322) -/
  | haltWithIMEClear
  /-- the cartridge-type byte is neither 0x00 nor 0x01 (R323) -/
  | unsupportedCartridgeType
deriving DecidableEq, Repr

/-- The fault record `(kind, pc, opcode)` (10_state.md R35). -/
structure FaultRecord where
  kind   : FaultKind
  pc     : Word
  opcode : Byte
deriving DecidableEq, Repr

/-- `CART_TYPE` (10_state.md R38). -/
inductive CartType where
  | none
  | mbc1
deriving DecidableEq, Repr

/-- The decomposed fields of the byte last written to LCDC, bits 7 down to 0 (10_state.md R44, R49). -/
structure LcdcFields where
  displayEnable    : Bool
  windowMapSelect  : Bool
  windowEnable     : Bool
  tileDataSelect   : Bool
  bgMapSelect      : Bool
  objectSize       : Bool
  objectEnable     : Bool
  bgEnable         : Bool
deriving DecidableEq, Repr

/-- The mode field of STAT, bits 1:0 (10_state.md R45): mode 0 (HBlank), 1 (VBlank), 2 (OAM), 3. -/
inductive StatMode where
  | mode0
  | mode1
  | mode2
  | mode3
deriving DecidableEq, Repr

/-- The decomposed fields of the byte last written to STAT, bits 6 down to 0 (10_state.md R45, R49). -/
structure StatFields where
  lyCompareSelect : Bool
  mode2Select     : Bool
  mode1Select     : Bool
  mode0Select     : Bool
  compareFlag     : Bool
  mode            : StatMode
deriving DecidableEq, Repr

/-- The "four 2-bit palette-index slots" of a palette byte (10_state.md R49). -/
structure PaletteSlots where
  slot0 : BitVec 2
  slot1 : BitVec 2
  slot2 : BitVec 2
  slot3 : BitVec 2
deriving DecidableEq, Repr

/-- One move of the environment (00_scope.md R15): IF bits it sets, and bytes of 0xFF00..0xFF7F it replaces,
each as an offset from 0xFF00 (an entry for IF itself, offset 0x0F, is no move R15 allows and has no effect). -/
structure EnvMove where
  requests : BitVec 5
  writes   : List (BitVec 7 × Byte)
deriving DecidableEq, Repr, Inhabited

/-- The move that does nothing. -/
def EnvMove.idle : EnvMove := ⟨0#5, []⟩

/-- What the bus owns (R2): the cartridge, the bank-controller state, the byte storage (IE and IF among it),
the display copies and the output events. -/
structure Bus where
  /-- `CART_TYPE` (R38) -/
  cartType  : CartType
  /-- `ROM_SIZE` (R7) -/
  romSize   : Nat
  /-- `ROM`, keyed by image offset (R7) -/
  rom       : Memory
  /-- `ROMBANK` (R39) -/
  romBank   : BitVec 5
  /-- `MBC1MODE` (R40) -/
  mbc1Mode  : Bool
  /-- `MEM`, the writable bytes, keyed by bus address; an echo address has no key of its own (R41, R85) -/
  mem       : Memory
  /-- decomposed display fields (R49) -/
  lcdc      : LcdcFields
  stat      : StatFields
  bgp       : PaletteSlots
  obp0      : PaletteSlots
  obp1      : PaletteSlots
  /-- VRAM addresses written, strictly rising (R50; log 13) -/
  vramDirty : List Nat
  /-- the `JoypadWrite` events of this step, in order (R74, R14; log 11) -/
  joypadOut : List Byte
  /-- the MODEL's own counter: first argument of `Config.absentRomByte` (log 5) -/
  freeReads : Nat
deriving DecidableEq, Repr

/-- The complete state of the block (R20). -/
structure State where
  /-- A, B, C, D, E (R21) -/
  a : Byte
  b : Byte
  c : Byte
  d : Byte
  e : Byte
  /-- HL, with the byte views H and L (R22) -/
  hl : Word
  /-- the four flags (R24) -/
  fZ : Bool
  fN : Bool
  fH : Bool
  fC : Bool
  /-- SP (R26), PC (R27) -/
  sp : Word
  pc : Word
  /-- IME (R31), halted (R32), stopped (R34) -/
  ime     : Bool
  halted  : Bool
  stopped : Bool
  /-- the fault register (R35) -/
  fault : Option FaultRecord
  /-- the elapsed-cycle count of the step (R51), none where the step returns none (R324) -/
  cycles : Option Nat
  /-- the check's own output (R334), none where no check ran -/
  dispatchCycles : Option Nat
  /-- what the bus owns -/
  bus : Bus
  /-- the MODEL's own field: the environment's coming moves, the next first (R15; log 4) -/
  env : List EnvMove
  /-- the MODEL's own field: the moves it repeats for ever after those; where there are none, every later move is free
  (R15; log 4) -/
  envCycle : List EnvMove
deriving DecidableEq, Repr

/-- Why a step answers no state. Both are raised by `step` alone, on a core that already has no further step. -/
inductive Fault where
  /-- raised by `step` when the fault register is not none: "no step exists" (R110, R324). Safe: the hardware
  does nothing there either. -/
  | coreFaulted (r : FaultRecord)
  /-- raised by `step` when `stopped` = 1: "the core has no step at all" (R34, R297). Safe: the spec gives no
  behaviour after STOP. -/
  | coreStopped
deriving DecidableEq, Repr

/-- Refusals. None is reachable: every instruction of the table has its meaning. -/
inductive Refusal where
  /-- raised by an arm of `exec` whose instruction has no meaning yet (no such arm exists). Safe. -/
  | notModelled (mnemonic : String)
deriving DecidableEq, Repr

/-- What a step or a meaning answers. -/
abbrev Result := Host.Outcome State Fault Refusal

/-- The bus right after reset with the blank cartridge of log 2 and the all-zero `RESET_MEM` of log 1. -/
def Bus.reset : Bus where
  cartType  := .none
  romSize   := 0x8000
  rom       := []
  romBank   := 1#5
  mbc1Mode  := false
  mem       := []
  lcdc      := ⟨false, false, false, false, false, false, false, false⟩
  stat      := ⟨false, false, false, false, false, .mode0⟩
  bgp       := ⟨0, 0, 0, 0⟩
  obp0      := ⟨0, 0, 0, 0⟩
  obp1      := ⟨0, 0, 0, 0⟩
  vramDirty := []
  joypadOut := []
  freeReads := 0

/-- The machine right after reset (70_reset_and_hazards.md R372), with the cartridge and memory of `Bus.reset` and the
environment idle for ever (log 4). -/
def State.reset : State where
  a := 0x01#8
  b := 0x00#8
  c := 0x13#8
  d := 0x00#8
  e := 0xD8#8
  hl := 0x014D#16
  fZ := true
  fN := false
  fH := true
  fC := true
  sp := 0xFFFE#16
  pc := 0x0100#16
  ime := false
  halted := false
  stopped := false
  fault := none
  cycles := none
  dispatchCycles := none
  bus := Bus.reset
  env := []
  envCycle := [EnvMove.idle]

end Sys2Proof.Machine
end

