-- ==== Sys2Proof/Syntax.lean ====
section
/-! DEFINITION. The instructions: one constructor per row of opcode_table.json (30_encoding.md R123, R122), and
the operand selectors of 30_encoding.md R113 to R116. An operand is the value its bytes hold: `n` for d8 and a8
(R117, R120), `e` for e8 (R119), `w` for d16 and a16 (R118). -/

namespace Sys2Proof

/-- The seven 8-bit registers of the selector `r8` (R113). -/
inductive Reg8 where
  | b | c | d | e | h | l | a
deriving DecidableEq, Repr

/-- The eight operand locations of `r8`: a register, or the byte at HL (R113). -/
inductive Loc8 where
  | reg (r : Reg8)
  | atHL
deriving DecidableEq, Repr

/-- The selector `r16` (R114). -/
inductive Pair where
  | bc | de | hl | sp
deriving DecidableEq, Repr

/-- The selector `r16s` (R115). -/
inductive StackPair where
  | bc | de | hl | af
deriving DecidableEq, Repr

/-- The condition selector `cc` (R116). -/
inductive Cond where
  | nz | z | nc | c
deriving DecidableEq, Repr

/-- ALU operation number `y` (R123, `x = 2`). -/
inductive AluOp where
  | add | adc | sub | sbc | and | xor | or | cp
deriving DecidableEq, Repr

/-- Rotate or shift number `y` of the extended page (R122, `x = 0`). -/
inductive ShiftOp where
  | rlc | rrc | rl | rr | sla | sra | swap | srl
deriving DecidableEq, Repr

/-- The 512 rows of opcode_table.json. `prefixCB` is the row "never alone" (R112, R121): the first byte of the
extended page, no instruction on its own (`WellFormed`). Rows with operand bytes stand first. -/
inductive Instr where
  /-- `LD BC,d16`: 0x01, then two bytes, low first. R159 -/
  | ldBCD16 (w : Word)
  /-- `LD B,d8`: 0x06, then a byte. R141 -/
  | ldBD8 (n : Byte)
  /-- `LD (a16),SP`: 0x08, then two bytes, low first. R160 -/
  | ldAtA16SP (w : Word)
  /-- `LD C,d8`: 0x0E, then a byte. R141 -/
  | ldCD8 (n : Byte)
  /-- `LD DE,d16`: 0x11, then two bytes, low first. R159 -/
  | ldDED16 (w : Word)
  /-- `LD D,d8`: 0x16, then a byte. R141 -/
  | ldDD8 (n : Byte)
  /-- `JR e8`: 0x18, then a signed byte. R264 -/
  | jrE8 (e : Byte)
  /-- `LD E,d8`: 0x1E, then a byte. R141 -/
  | ldED8 (n : Byte)
  /-- `JR NZ,e8`: 0x20, then a signed byte. R265 -/
  | jrNZE8 (e : Byte)
  /-- `LD HL,d16`: 0x21, then two bytes, low first. R159 -/
  | ldHLD16 (w : Word)
  /-- `LD H,d8`: 0x26, then a byte. R141 -/
  | ldHD8 (n : Byte)
  /-- `JR Z,e8`: 0x28, then a signed byte. R265 -/
  | jrZE8 (e : Byte)
  /-- `LD L,d8`: 0x2E, then a byte. R141 -/
  | ldLD8 (n : Byte)
  /-- `JR NC,e8`: 0x30, then a signed byte. R265 -/
  | jrNCE8 (e : Byte)
  /-- `LD SP,d16`: 0x31, then two bytes, low first. R159 -/
  | ldSPD16 (w : Word)
  /-- `LD (HL),d8`: 0x36, then a byte. R144 -/
  | ldAtHLD8 (n : Byte)
  /-- `JR C,e8`: 0x38, then a signed byte. R265 -/
  | jrCE8 (e : Byte)
  /-- `LD A,d8`: 0x3E, then a byte. R141 -/
  | ldAD8 (n : Byte)
  /-- `JP NZ,a16`: 0xC2, then two bytes, low first. R262 -/
  | jpNZA16 (w : Word)
  /-- `JP a16`: 0xC3, then two bytes, low first. R261 -/
  | jpA16 (w : Word)
  /-- `CALL NZ,a16`: 0xC4, then two bytes, low first. R267 -/
  | callNZA16 (w : Word)
  /-- `ADD A,d8`: 0xC6, then a byte. R185 -/
  | addAD8 (n : Byte)
  /-- `JP Z,a16`: 0xCA, then two bytes, low first. R262 -/
  | jpZA16 (w : Word)
  /-- `CALL Z,a16`: 0xCC, then two bytes, low first. R267 -/
  | callZA16 (w : Word)
  /-- `CALL a16`: 0xCD, then two bytes, low first. R266 -/
  | callA16 (w : Word)
  /-- `ADC A,d8`: 0xCE, then a byte. R188 -/
  | adcAD8 (n : Byte)
  /-- `JP NC,a16`: 0xD2, then two bytes, low first. R262 -/
  | jpNCA16 (w : Word)
  /-- `CALL NC,a16`: 0xD4, then two bytes, low first. R267 -/
  | callNCA16 (w : Word)
  /-- `SUB d8`: 0xD6, then a byte. R191 -/
  | subD8 (n : Byte)
  /-- `JP C,a16`: 0xDA, then two bytes, low first. R262 -/
  | jpCA16 (w : Word)
  /-- `CALL C,a16`: 0xDC, then two bytes, low first. R267 -/
  | callCA16 (w : Word)
  /-- `SBC A,d8`: 0xDE, then a byte. R194 -/
  | sbcAD8 (n : Byte)
  /-- `LDH (a8),A`: 0xE0, then a byte. R152 -/
  | ldhAtA8A (n : Byte)
  /-- `AND d8`: 0xE6, then a byte. R197 -/
  | andD8 (n : Byte)
  /-- `ADD SP,e8`: 0xE8, then a signed byte. R212 -/
  | addSPE8 (e : Byte)
  /-- `LD (a16),A`: 0xEA, then two bytes, low first. R150 -/
  | ldAtA16A (w : Word)
  /-- `XOR d8`: 0xEE, then a byte. R200 -/
  | xorD8 (n : Byte)
  /-- `LDH A,(a8)`: 0xF0, then a byte. R151 -/
  | ldhAAtA8 (n : Byte)
  /-- `OR d8`: 0xF6, then a byte. R203 -/
  | orD8 (n : Byte)
  /-- `LD HL,SP+e8`: 0xF8, then a signed byte. R213 -/
  | ldHLSPE8 (e : Byte)
  /-- `LD A,(a16)`: 0xFA, then two bytes, low first. R149 -/
  | ldAAtA16 (w : Word)
  /-- `CP d8`: 0xFE, then a byte. R206 -/
  | cpD8 (n : Byte)
  /-- `NOP`: 0x00. R298 -/
  | nop
  /-- `LD (BC),A`: 0x02. R147 -/
  | ldAtBCA
  /-- `INC BC`: 0x03. R176 -/
  | incBC
  /-- `INC B`: 0x04. R172 -/
  | incB
  /-- `DEC B`: 0x05. R174 -/
  | decB
  /-- `RLCA`: 0x07. R220 -/
  | rlca
  /-- `ADD HL,BC`: 0x09. R210 -/
  | addHLBC
  /-- `LD A,(BC)`: 0x0A. R145 -/
  | ldAAtBC
  /-- `DEC BC`: 0x0B. R177 -/
  | decBC
  /-- `INC C`: 0x0C. R172 -/
  | incC
  /-- `DEC C`: 0x0D. R174 -/
  | decC
  /-- `RRCA`: 0x0F. R221 -/
  | rrca
  /-- `STOP`: 0x10. R297 -/
  | stop
  /-- `LD (DE),A`: 0x12. R148 -/
  | ldAtDEA
  /-- `INC DE`: 0x13. R176 -/
  | incDE
  /-- `INC D`: 0x14. R172 -/
  | incD
  /-- `DEC D`: 0x15. R174 -/
  | decD
  /-- `RLA`: 0x17. R222 -/
  | rla
  /-- `ADD HL,DE`: 0x19. R210 -/
  | addHLDE
  /-- `LD A,(DE)`: 0x1A. R146 -/
  | ldAAtDE
  /-- `DEC DE`: 0x1B. R177 -/
  | decDE
  /-- `INC E`: 0x1C. R172 -/
  | incE
  /-- `DEC E`: 0x1D. R174 -/
  | decE
  /-- `RRA`: 0x1F. R223 -/
  | rra
  /-- `LD (HL+),A`: 0x22. R155 -/
  | ldAtHLIncA
  /-- `INC HL`: 0x23. R176 -/
  | incHL
  /-- `INC H`: 0x24. R172 -/
  | incH
  /-- `DEC H`: 0x25. R174 -/
  | decH
  /-- `DAA`: 0x27. R290 -/
  | daa
  /-- `ADD HL,HL`: 0x29. R210 -/
  | addHLHL
  /-- `LD A,(HL+)`: 0x2A. R157 -/
  | ldAAtHLInc
  /-- `DEC HL`: 0x2B. R177 -/
  | decHL
  /-- `INC L`: 0x2C. R172 -/
  | incL
  /-- `DEC L`: 0x2D. R174 -/
  | decL
  /-- `CPL`: 0x2F. R291 -/
  | cpl
  /-- `LD (HL-),A`: 0x32. R156 -/
  | ldAtHLDecA
  /-- `INC SP`: 0x33. R176 -/
  | incSP
  /-- `INC (HL)`: 0x34. R173 -/
  | incAtHL
  /-- `DEC (HL)`: 0x35. R175 -/
  | decAtHL
  /-- `SCF`: 0x37. R292 -/
  | scf
  /-- `ADD HL,SP`: 0x39. R210 -/
  | addHLSP
  /-- `LD A,(HL-)`: 0x3A. R158 -/
  | ldAAtHLDec
  /-- `DEC SP`: 0x3B. R177 -/
  | decSP
  /-- `INC A`: 0x3C. R172 -/
  | incA
  /-- `DEC A`: 0x3D. R174 -/
  | decA
  /-- `CCF`: 0x3F. R293 -/
  | ccf
  /-- `LD B,B`: 0x40. R140 -/
  | ldBB
  /-- `LD B,C`: 0x41. R140 -/
  | ldBC
  /-- `LD B,D`: 0x42. R140 -/
  | ldBD
  /-- `LD B,E`: 0x43. R140 -/
  | ldBE
  /-- `LD B,H`: 0x44. R140 -/
  | ldBH
  /-- `LD B,L`: 0x45. R140 -/
  | ldBL
  /-- `LD B,(HL)`: 0x46. R142 -/
  | ldBAtHL
  /-- `LD B,A`: 0x47. R140 -/
  | ldBA
  /-- `LD C,B`: 0x48. R140 -/
  | ldCB
  /-- `LD C,C`: 0x49. R140 -/
  | ldCC
  /-- `LD C,D`: 0x4A. R140 -/
  | ldCD
  /-- `LD C,E`: 0x4B. R140 -/
  | ldCE
  /-- `LD C,H`: 0x4C. R140 -/
  | ldCH
  /-- `LD C,L`: 0x4D. R140 -/
  | ldCL
  /-- `LD C,(HL)`: 0x4E. R142 -/
  | ldCAtHL
  /-- `LD C,A`: 0x4F. R140 -/
  | ldCA
  /-- `LD D,B`: 0x50. R140 -/
  | ldDB
  /-- `LD D,C`: 0x51. R140 -/
  | ldDC
  /-- `LD D,D`: 0x52. R140 -/
  | ldDD
  /-- `LD D,E`: 0x53. R140 -/
  | ldDE
  /-- `LD D,H`: 0x54. R140 -/
  | ldDH
  /-- `LD D,L`: 0x55. R140 -/
  | ldDL
  /-- `LD D,(HL)`: 0x56. R142 -/
  | ldDAtHL
  /-- `LD D,A`: 0x57. R140 -/
  | ldDA
  /-- `LD E,B`: 0x58. R140 -/
  | ldEB
  /-- `LD E,C`: 0x59. R140 -/
  | ldEC
  /-- `LD E,D`: 0x5A. R140 -/
  | ldED
  /-- `LD E,E`: 0x5B. R140 -/
  | ldEE
  /-- `LD E,H`: 0x5C. R140 -/
  | ldEH
  /-- `LD E,L`: 0x5D. R140 -/
  | ldEL
  /-- `LD E,(HL)`: 0x5E. R142 -/
  | ldEAtHL
  /-- `LD E,A`: 0x5F. R140 -/
  | ldEA
  /-- `LD H,B`: 0x60. R140 -/
  | ldHB
  /-- `LD H,C`: 0x61. R140 -/
  | ldHC
  /-- `LD H,D`: 0x62. R140 -/
  | ldHD
  /-- `LD H,E`: 0x63. R140 -/
  | ldHE
  /-- `LD H,H`: 0x64. R140 -/
  | ldHH
  /-- `LD H,L`: 0x65. R140 -/
  | ldHL
  /-- `LD H,(HL)`: 0x66. R142 -/
  | ldHAtHL
  /-- `LD H,A`: 0x67. R140 -/
  | ldHA
  /-- `LD L,B`: 0x68. R140 -/
  | ldLB
  /-- `LD L,C`: 0x69. R140 -/
  | ldLC
  /-- `LD L,D`: 0x6A. R140 -/
  | ldLD
  /-- `LD L,E`: 0x6B. R140 -/
  | ldLE
  /-- `LD L,H`: 0x6C. R140 -/
  | ldLH
  /-- `LD L,L`: 0x6D. R140 -/
  | ldLL
  /-- `LD L,(HL)`: 0x6E. R142 -/
  | ldLAtHL
  /-- `LD L,A`: 0x6F. R140 -/
  | ldLA
  /-- `LD (HL),B`: 0x70. R143 -/
  | ldAtHLB
  /-- `LD (HL),C`: 0x71. R143 -/
  | ldAtHLC
  /-- `LD (HL),D`: 0x72. R143 -/
  | ldAtHLD
  /-- `LD (HL),E`: 0x73. R143 -/
  | ldAtHLE
  /-- `LD (HL),H`: 0x74. R143 -/
  | ldAtHLH
  /-- `LD (HL),L`: 0x75. R143 -/
  | ldAtHLL
  /-- `HALT`: 0x76. R296 -/
  | halt
  /-- `LD (HL),A`: 0x77. R143 -/
  | ldAtHLA
  /-- `LD A,B`: 0x78. R140 -/
  | ldAB
  /-- `LD A,C`: 0x79. R140 -/
  | ldAC
  /-- `LD A,D`: 0x7A. R140 -/
  | ldAD
  /-- `LD A,E`: 0x7B. R140 -/
  | ldAE
  /-- `LD A,H`: 0x7C. R140 -/
  | ldAH
  /-- `LD A,L`: 0x7D. R140 -/
  | ldAL
  /-- `LD A,(HL)`: 0x7E. R142 -/
  | ldAAtHL
  /-- `LD A,A`: 0x7F. R140 -/
  | ldAA
  /-- `ADD A,B`: 0x80. R183 -/
  | addAB
  /-- `ADD A,C`: 0x81. R183 -/
  | addAC
  /-- `ADD A,D`: 0x82. R183 -/
  | addAD
  /-- `ADD A,E`: 0x83. R183 -/
  | addAE
  /-- `ADD A,H`: 0x84. R183 -/
  | addAH
  /-- `ADD A,L`: 0x85. R183 -/
  | addAL
  /-- `ADD A,(HL)`: 0x86. R184 -/
  | addAAtHL
  /-- `ADD A,A`: 0x87. R183 -/
  | addAA
  /-- `ADC A,B`: 0x88. R186 -/
  | adcAB
  /-- `ADC A,C`: 0x89. R186 -/
  | adcAC
  /-- `ADC A,D`: 0x8A. R186 -/
  | adcAD
  /-- `ADC A,E`: 0x8B. R186 -/
  | adcAE
  /-- `ADC A,H`: 0x8C. R186 -/
  | adcAH
  /-- `ADC A,L`: 0x8D. R186 -/
  | adcAL
  /-- `ADC A,(HL)`: 0x8E. R187 -/
  | adcAAtHL
  /-- `ADC A,A`: 0x8F. R186 -/
  | adcAA
  /-- `SUB B`: 0x90. R189 -/
  | subB
  /-- `SUB C`: 0x91. R189 -/
  | subC
  /-- `SUB D`: 0x92. R189 -/
  | subD
  /-- `SUB E`: 0x93. R189 -/
  | subE
  /-- `SUB H`: 0x94. R189 -/
  | subH
  /-- `SUB L`: 0x95. R189 -/
  | subL
  /-- `SUB (HL)`: 0x96. R190 -/
  | subAtHL
  /-- `SUB A`: 0x97. R189 -/
  | subA
  /-- `SBC A,B`: 0x98. R192 -/
  | sbcAB
  /-- `SBC A,C`: 0x99. R192 -/
  | sbcAC
  /-- `SBC A,D`: 0x9A. R192 -/
  | sbcAD
  /-- `SBC A,E`: 0x9B. R192 -/
  | sbcAE
  /-- `SBC A,H`: 0x9C. R192 -/
  | sbcAH
  /-- `SBC A,L`: 0x9D. R192 -/
  | sbcAL
  /-- `SBC A,(HL)`: 0x9E. R193 -/
  | sbcAAtHL
  /-- `SBC A,A`: 0x9F. R192 -/
  | sbcAA
  /-- `AND B`: 0xA0. R195 -/
  | andB
  /-- `AND C`: 0xA1. R195 -/
  | andC
  /-- `AND D`: 0xA2. R195 -/
  | andD
  /-- `AND E`: 0xA3. R195 -/
  | andE
  /-- `AND H`: 0xA4. R195 -/
  | andH
  /-- `AND L`: 0xA5. R195 -/
  | andL
  /-- `AND (HL)`: 0xA6. R196 -/
  | andAtHL
  /-- `AND A`: 0xA7. R195 -/
  | andA
  /-- `XOR B`: 0xA8. R198 -/
  | xorB
  /-- `XOR C`: 0xA9. R198 -/
  | xorC
  /-- `XOR D`: 0xAA. R198 -/
  | xorD
  /-- `XOR E`: 0xAB. R198 -/
  | xorE
  /-- `XOR H`: 0xAC. R198 -/
  | xorH
  /-- `XOR L`: 0xAD. R198 -/
  | xorL
  /-- `XOR (HL)`: 0xAE. R199 -/
  | xorAtHL
  /-- `XOR A`: 0xAF. R198 -/
  | xorA
  /-- `OR B`: 0xB0. R201 -/
  | orB
  /-- `OR C`: 0xB1. R201 -/
  | orC
  /-- `OR D`: 0xB2. R201 -/
  | orD
  /-- `OR E`: 0xB3. R201 -/
  | orE
  /-- `OR H`: 0xB4. R201 -/
  | orH
  /-- `OR L`: 0xB5. R201 -/
  | orL
  /-- `OR (HL)`: 0xB6. R202 -/
  | orAtHL
  /-- `OR A`: 0xB7. R201 -/
  | orA
  /-- `CP B`: 0xB8. R204 -/
  | cpB
  /-- `CP C`: 0xB9. R204 -/
  | cpC
  /-- `CP D`: 0xBA. R204 -/
  | cpD
  /-- `CP E`: 0xBB. R204 -/
  | cpE
  /-- `CP H`: 0xBC. R204 -/
  | cpH
  /-- `CP L`: 0xBD. R204 -/
  | cpL
  /-- `CP (HL)`: 0xBE. R205 -/
  | cpAtHL
  /-- `CP A`: 0xBF. R204 -/
  | cpA
  /-- `RET NZ`: 0xC0. R269 -/
  | retNZ
  /-- `POP BC`: 0xC1. R284 -/
  | popBC
  /-- `PUSH BC`: 0xC5. R282 -/
  | pushBC
  /-- `RST 00H`: 0xC7. R271 -/
  | rst00
  /-- `RET Z`: 0xC8. R269 -/
  | retZ
  /-- `RET`: 0xC9. R268 -/
  | ret
  /-- `PREFIX CB`: 0xCB. R121 -/
  | prefixCB
  /-- `RST 08H`: 0xCF. R271 -/
  | rst08
  /-- `RET NC`: 0xD0. R269 -/
  | retNC
  /-- `POP DE`: 0xD1. R284 -/
  | popDE
  /-- `ILLEGAL_D3`: 0xD3. R310 -/
  | illegalD3
  /-- `PUSH DE`: 0xD5. R282 -/
  | pushDE
  /-- `RST 10H`: 0xD7. R271 -/
  | rst10
  /-- `RET C`: 0xD8. R269 -/
  | retC
  /-- `RETI`: 0xD9. R270 -/
  | reti
  /-- `ILLEGAL_DB`: 0xDB. R310 -/
  | illegalDB
  /-- `ILLEGAL_DD`: 0xDD. R310 -/
  | illegalDD
  /-- `RST 18H`: 0xDF. R271 -/
  | rst18
  /-- `POP HL`: 0xE1. R284 -/
  | popHL
  /-- `LD (C),A`: 0xE2. R154 -/
  | ldAtCA
  /-- `ILLEGAL_E3`: 0xE3. R310 -/
  | illegalE3
  /-- `ILLEGAL_E4`: 0xE4. R310 -/
  | illegalE4
  /-- `PUSH HL`: 0xE5. R282 -/
  | pushHL
  /-- `RST 20H`: 0xE7. R271 -/
  | rst20
  /-- `JP (HL)`: 0xE9. R263 -/
  | jpAtHL
  /-- `ILLEGAL_EB`: 0xEB. R310 -/
  | illegalEB
  /-- `ILLEGAL_EC`: 0xEC. R310 -/
  | illegalEC
  /-- `ILLEGAL_ED`: 0xED. R310 -/
  | illegalED
  /-- `RST 28H`: 0xEF. R271 -/
  | rst28
  /-- `POP AF`: 0xF1. R285 -/
  | popAF
  /-- `LD A,(C)`: 0xF2. R153 -/
  | ldAAtC
  /-- `DI`: 0xF3. R294 -/
  | di
  /-- `ILLEGAL_F4`: 0xF4. R310 -/
  | illegalF4
  /-- `PUSH AF`: 0xF5. R283 -/
  | pushAF
  /-- `RST 30H`: 0xF7. R271 -/
  | rst30
  /-- `LD SP,HL`: 0xF9. R161 -/
  | ldSPHL
  /-- `EI`: 0xFB. R295 -/
  | ei
  /-- `ILLEGAL_FC`: 0xFC. R310 -/
  | illegalFC
  /-- `ILLEGAL_FD`: 0xFD. R310 -/
  | illegalFD
  /-- `RST 38H`: 0xFF. R271 -/
  | rst38
  /-- `RLC B`: 0xCB 0x00. R232 -/
  | rlcB
  /-- `RLC C`: 0xCB 0x01. R232 -/
  | rlcC
  /-- `RLC D`: 0xCB 0x02. R232 -/
  | rlcD
  /-- `RLC E`: 0xCB 0x03. R232 -/
  | rlcE
  /-- `RLC H`: 0xCB 0x04. R232 -/
  | rlcH
  /-- `RLC L`: 0xCB 0x05. R232 -/
  | rlcL
  /-- `RLC (HL)`: 0xCB 0x06. R233 -/
  | rlcAtHL
  /-- `RLC A`: 0xCB 0x07. R232 -/
  | rlcA
  /-- `RRC B`: 0xCB 0x08. R234 -/
  | rrcB
  /-- `RRC C`: 0xCB 0x09. R234 -/
  | rrcC
  /-- `RRC D`: 0xCB 0x0A. R234 -/
  | rrcD
  /-- `RRC E`: 0xCB 0x0B. R234 -/
  | rrcE
  /-- `RRC H`: 0xCB 0x0C. R234 -/
  | rrcH
  /-- `RRC L`: 0xCB 0x0D. R234 -/
  | rrcL
  /-- `RRC (HL)`: 0xCB 0x0E. R235 -/
  | rrcAtHL
  /-- `RRC A`: 0xCB 0x0F. R234 -/
  | rrcA
  /-- `RL B`: 0xCB 0x10. R236 -/
  | rlB
  /-- `RL C`: 0xCB 0x11. R236 -/
  | rlC
  /-- `RL D`: 0xCB 0x12. R236 -/
  | rlD
  /-- `RL E`: 0xCB 0x13. R236 -/
  | rlE
  /-- `RL H`: 0xCB 0x14. R236 -/
  | rlH
  /-- `RL L`: 0xCB 0x15. R236 -/
  | rlL
  /-- `RL (HL)`: 0xCB 0x16. R237 -/
  | rlAtHL
  /-- `RL A`: 0xCB 0x17. R236 -/
  | rlA
  /-- `RR B`: 0xCB 0x18. R238 -/
  | rrB
  /-- `RR C`: 0xCB 0x19. R238 -/
  | rrC
  /-- `RR D`: 0xCB 0x1A. R238 -/
  | rrD
  /-- `RR E`: 0xCB 0x1B. R238 -/
  | rrE
  /-- `RR H`: 0xCB 0x1C. R238 -/
  | rrH
  /-- `RR L`: 0xCB 0x1D. R238 -/
  | rrL
  /-- `RR (HL)`: 0xCB 0x1E. R239 -/
  | rrAtHL
  /-- `RR A`: 0xCB 0x1F. R238 -/
  | rrA
  /-- `SLA B`: 0xCB 0x20. R240 -/
  | slaB
  /-- `SLA C`: 0xCB 0x21. R240 -/
  | slaC
  /-- `SLA D`: 0xCB 0x22. R240 -/
  | slaD
  /-- `SLA E`: 0xCB 0x23. R240 -/
  | slaE
  /-- `SLA H`: 0xCB 0x24. R240 -/
  | slaH
  /-- `SLA L`: 0xCB 0x25. R240 -/
  | slaL
  /-- `SLA (HL)`: 0xCB 0x26. R241 -/
  | slaAtHL
  /-- `SLA A`: 0xCB 0x27. R240 -/
  | slaA
  /-- `SRA B`: 0xCB 0x28. R242 -/
  | sraB
  /-- `SRA C`: 0xCB 0x29. R242 -/
  | sraC
  /-- `SRA D`: 0xCB 0x2A. R242 -/
  | sraD
  /-- `SRA E`: 0xCB 0x2B. R242 -/
  | sraE
  /-- `SRA H`: 0xCB 0x2C. R242 -/
  | sraH
  /-- `SRA L`: 0xCB 0x2D. R242 -/
  | sraL
  /-- `SRA (HL)`: 0xCB 0x2E. R243 -/
  | sraAtHL
  /-- `SRA A`: 0xCB 0x2F. R242 -/
  | sraA
  /-- `SWAP B`: 0xCB 0x30. R244 -/
  | swapB
  /-- `SWAP C`: 0xCB 0x31. R244 -/
  | swapC
  /-- `SWAP D`: 0xCB 0x32. R244 -/
  | swapD
  /-- `SWAP E`: 0xCB 0x33. R244 -/
  | swapE
  /-- `SWAP H`: 0xCB 0x34. R244 -/
  | swapH
  /-- `SWAP L`: 0xCB 0x35. R244 -/
  | swapL
  /-- `SWAP (HL)`: 0xCB 0x36. R245 -/
  | swapAtHL
  /-- `SWAP A`: 0xCB 0x37. R244 -/
  | swapA
  /-- `SRL B`: 0xCB 0x38. R246 -/
  | srlB
  /-- `SRL C`: 0xCB 0x39. R246 -/
  | srlC
  /-- `SRL D`: 0xCB 0x3A. R246 -/
  | srlD
  /-- `SRL E`: 0xCB 0x3B. R246 -/
  | srlE
  /-- `SRL H`: 0xCB 0x3C. R246 -/
  | srlH
  /-- `SRL L`: 0xCB 0x3D. R246 -/
  | srlL
  /-- `SRL (HL)`: 0xCB 0x3E. R247 -/
  | srlAtHL
  /-- `SRL A`: 0xCB 0x3F. R246 -/
  | srlA
  /-- `BIT 0,B`: 0xCB 0x40. R250 -/
  | bit0B
  /-- `BIT 0,C`: 0xCB 0x41. R250 -/
  | bit0C
  /-- `BIT 0,D`: 0xCB 0x42. R250 -/
  | bit0D
  /-- `BIT 0,E`: 0xCB 0x43. R250 -/
  | bit0E
  /-- `BIT 0,H`: 0xCB 0x44. R250 -/
  | bit0H
  /-- `BIT 0,L`: 0xCB 0x45. R250 -/
  | bit0L
  /-- `BIT 0,(HL)`: 0xCB 0x46. R251 -/
  | bit0AtHL
  /-- `BIT 0,A`: 0xCB 0x47. R250 -/
  | bit0A
  /-- `BIT 1,B`: 0xCB 0x48. R250 -/
  | bit1B
  /-- `BIT 1,C`: 0xCB 0x49. R250 -/
  | bit1C
  /-- `BIT 1,D`: 0xCB 0x4A. R250 -/
  | bit1D
  /-- `BIT 1,E`: 0xCB 0x4B. R250 -/
  | bit1E
  /-- `BIT 1,H`: 0xCB 0x4C. R250 -/
  | bit1H
  /-- `BIT 1,L`: 0xCB 0x4D. R250 -/
  | bit1L
  /-- `BIT 1,(HL)`: 0xCB 0x4E. R251 -/
  | bit1AtHL
  /-- `BIT 1,A`: 0xCB 0x4F. R250 -/
  | bit1A
  /-- `BIT 2,B`: 0xCB 0x50. R250 -/
  | bit2B
  /-- `BIT 2,C`: 0xCB 0x51. R250 -/
  | bit2C
  /-- `BIT 2,D`: 0xCB 0x52. R250 -/
  | bit2D
  /-- `BIT 2,E`: 0xCB 0x53. R250 -/
  | bit2E
  /-- `BIT 2,H`: 0xCB 0x54. R250 -/
  | bit2H
  /-- `BIT 2,L`: 0xCB 0x55. R250 -/
  | bit2L
  /-- `BIT 2,(HL)`: 0xCB 0x56. R251 -/
  | bit2AtHL
  /-- `BIT 2,A`: 0xCB 0x57. R250 -/
  | bit2A
  /-- `BIT 3,B`: 0xCB 0x58. R250 -/
  | bit3B
  /-- `BIT 3,C`: 0xCB 0x59. R250 -/
  | bit3C
  /-- `BIT 3,D`: 0xCB 0x5A. R250 -/
  | bit3D
  /-- `BIT 3,E`: 0xCB 0x5B. R250 -/
  | bit3E
  /-- `BIT 3,H`: 0xCB 0x5C. R250 -/
  | bit3H
  /-- `BIT 3,L`: 0xCB 0x5D. R250 -/
  | bit3L
  /-- `BIT 3,(HL)`: 0xCB 0x5E. R251 -/
  | bit3AtHL
  /-- `BIT 3,A`: 0xCB 0x5F. R250 -/
  | bit3A
  /-- `BIT 4,B`: 0xCB 0x60. R250 -/
  | bit4B
  /-- `BIT 4,C`: 0xCB 0x61. R250 -/
  | bit4C
  /-- `BIT 4,D`: 0xCB 0x62. R250 -/
  | bit4D
  /-- `BIT 4,E`: 0xCB 0x63. R250 -/
  | bit4E
  /-- `BIT 4,H`: 0xCB 0x64. R250 -/
  | bit4H
  /-- `BIT 4,L`: 0xCB 0x65. R250 -/
  | bit4L
  /-- `BIT 4,(HL)`: 0xCB 0x66. R251 -/
  | bit4AtHL
  /-- `BIT 4,A`: 0xCB 0x67. R250 -/
  | bit4A
  /-- `BIT 5,B`: 0xCB 0x68. R250 -/
  | bit5B
  /-- `BIT 5,C`: 0xCB 0x69. R250 -/
  | bit5C
  /-- `BIT 5,D`: 0xCB 0x6A. R250 -/
  | bit5D
  /-- `BIT 5,E`: 0xCB 0x6B. R250 -/
  | bit5E
  /-- `BIT 5,H`: 0xCB 0x6C. R250 -/
  | bit5H
  /-- `BIT 5,L`: 0xCB 0x6D. R250 -/
  | bit5L
  /-- `BIT 5,(HL)`: 0xCB 0x6E. R251 -/
  | bit5AtHL
  /-- `BIT 5,A`: 0xCB 0x6F. R250 -/
  | bit5A
  /-- `BIT 6,B`: 0xCB 0x70. R250 -/
  | bit6B
  /-- `BIT 6,C`: 0xCB 0x71. R250 -/
  | bit6C
  /-- `BIT 6,D`: 0xCB 0x72. R250 -/
  | bit6D
  /-- `BIT 6,E`: 0xCB 0x73. R250 -/
  | bit6E
  /-- `BIT 6,H`: 0xCB 0x74. R250 -/
  | bit6H
  /-- `BIT 6,L`: 0xCB 0x75. R250 -/
  | bit6L
  /-- `BIT 6,(HL)`: 0xCB 0x76. R251 -/
  | bit6AtHL
  /-- `BIT 6,A`: 0xCB 0x77. R250 -/
  | bit6A
  /-- `BIT 7,B`: 0xCB 0x78. R250 -/
  | bit7B
  /-- `BIT 7,C`: 0xCB 0x79. R250 -/
  | bit7C
  /-- `BIT 7,D`: 0xCB 0x7A. R250 -/
  | bit7D
  /-- `BIT 7,E`: 0xCB 0x7B. R250 -/
  | bit7E
  /-- `BIT 7,H`: 0xCB 0x7C. R250 -/
  | bit7H
  /-- `BIT 7,L`: 0xCB 0x7D. R250 -/
  | bit7L
  /-- `BIT 7,(HL)`: 0xCB 0x7E. R251 -/
  | bit7AtHL
  /-- `BIT 7,A`: 0xCB 0x7F. R250 -/
  | bit7A
  /-- `RES 0,B`: 0xCB 0x80. R252 -/
  | res0B
  /-- `RES 0,C`: 0xCB 0x81. R252 -/
  | res0C
  /-- `RES 0,D`: 0xCB 0x82. R252 -/
  | res0D
  /-- `RES 0,E`: 0xCB 0x83. R252 -/
  | res0E
  /-- `RES 0,H`: 0xCB 0x84. R252 -/
  | res0H
  /-- `RES 0,L`: 0xCB 0x85. R252 -/
  | res0L
  /-- `RES 0,(HL)`: 0xCB 0x86. R253 -/
  | res0AtHL
  /-- `RES 0,A`: 0xCB 0x87. R252 -/
  | res0A
  /-- `RES 1,B`: 0xCB 0x88. R252 -/
  | res1B
  /-- `RES 1,C`: 0xCB 0x89. R252 -/
  | res1C
  /-- `RES 1,D`: 0xCB 0x8A. R252 -/
  | res1D
  /-- `RES 1,E`: 0xCB 0x8B. R252 -/
  | res1E
  /-- `RES 1,H`: 0xCB 0x8C. R252 -/
  | res1H
  /-- `RES 1,L`: 0xCB 0x8D. R252 -/
  | res1L
  /-- `RES 1,(HL)`: 0xCB 0x8E. R253 -/
  | res1AtHL
  /-- `RES 1,A`: 0xCB 0x8F. R252 -/
  | res1A
  /-- `RES 2,B`: 0xCB 0x90. R252 -/
  | res2B
  /-- `RES 2,C`: 0xCB 0x91. R252 -/
  | res2C
  /-- `RES 2,D`: 0xCB 0x92. R252 -/
  | res2D
  /-- `RES 2,E`: 0xCB 0x93. R252 -/
  | res2E
  /-- `RES 2,H`: 0xCB 0x94. R252 -/
  | res2H
  /-- `RES 2,L`: 0xCB 0x95. R252 -/
  | res2L
  /-- `RES 2,(HL)`: 0xCB 0x96. R253 -/
  | res2AtHL
  /-- `RES 2,A`: 0xCB 0x97. R252 -/
  | res2A
  /-- `RES 3,B`: 0xCB 0x98. R252 -/
  | res3B
  /-- `RES 3,C`: 0xCB 0x99. R252 -/
  | res3C
  /-- `RES 3,D`: 0xCB 0x9A. R252 -/
  | res3D
  /-- `RES 3,E`: 0xCB 0x9B. R252 -/
  | res3E
  /-- `RES 3,H`: 0xCB 0x9C. R252 -/
  | res3H
  /-- `RES 3,L`: 0xCB 0x9D. R252 -/
  | res3L
  /-- `RES 3,(HL)`: 0xCB 0x9E. R253 -/
  | res3AtHL
  /-- `RES 3,A`: 0xCB 0x9F. R252 -/
  | res3A
  /-- `RES 4,B`: 0xCB 0xA0. R252 -/
  | res4B
  /-- `RES 4,C`: 0xCB 0xA1. R252 -/
  | res4C
  /-- `RES 4,D`: 0xCB 0xA2. R252 -/
  | res4D
  /-- `RES 4,E`: 0xCB 0xA3. R252 -/
  | res4E
  /-- `RES 4,H`: 0xCB 0xA4. R252 -/
  | res4H
  /-- `RES 4,L`: 0xCB 0xA5. R252 -/
  | res4L
  /-- `RES 4,(HL)`: 0xCB 0xA6. R253 -/
  | res4AtHL
  /-- `RES 4,A`: 0xCB 0xA7. R252 -/
  | res4A
  /-- `RES 5,B`: 0xCB 0xA8. R252 -/
  | res5B
  /-- `RES 5,C`: 0xCB 0xA9. R252 -/
  | res5C
  /-- `RES 5,D`: 0xCB 0xAA. R252 -/
  | res5D
  /-- `RES 5,E`: 0xCB 0xAB. R252 -/
  | res5E
  /-- `RES 5,H`: 0xCB 0xAC. R252 -/
  | res5H
  /-- `RES 5,L`: 0xCB 0xAD. R252 -/
  | res5L
  /-- `RES 5,(HL)`: 0xCB 0xAE. R253 -/
  | res5AtHL
  /-- `RES 5,A`: 0xCB 0xAF. R252 -/
  | res5A
  /-- `RES 6,B`: 0xCB 0xB0. R252 -/
  | res6B
  /-- `RES 6,C`: 0xCB 0xB1. R252 -/
  | res6C
  /-- `RES 6,D`: 0xCB 0xB2. R252 -/
  | res6D
  /-- `RES 6,E`: 0xCB 0xB3. R252 -/
  | res6E
  /-- `RES 6,H`: 0xCB 0xB4. R252 -/
  | res6H
  /-- `RES 6,L`: 0xCB 0xB5. R252 -/
  | res6L
  /-- `RES 6,(HL)`: 0xCB 0xB6. R253 -/
  | res6AtHL
  /-- `RES 6,A`: 0xCB 0xB7. R252 -/
  | res6A
  /-- `RES 7,B`: 0xCB 0xB8. R252 -/
  | res7B
  /-- `RES 7,C`: 0xCB 0xB9. R252 -/
  | res7C
  /-- `RES 7,D`: 0xCB 0xBA. R252 -/
  | res7D
  /-- `RES 7,E`: 0xCB 0xBB. R252 -/
  | res7E
  /-- `RES 7,H`: 0xCB 0xBC. R252 -/
  | res7H
  /-- `RES 7,L`: 0xCB 0xBD. R252 -/
  | res7L
  /-- `RES 7,(HL)`: 0xCB 0xBE. R253 -/
  | res7AtHL
  /-- `RES 7,A`: 0xCB 0xBF. R252 -/
  | res7A
  /-- `SET 0,B`: 0xCB 0xC0. R254 -/
  | set0B
  /-- `SET 0,C`: 0xCB 0xC1. R254 -/
  | set0C
  /-- `SET 0,D`: 0xCB 0xC2. R254 -/
  | set0D
  /-- `SET 0,E`: 0xCB 0xC3. R254 -/
  | set0E
  /-- `SET 0,H`: 0xCB 0xC4. R254 -/
  | set0H
  /-- `SET 0,L`: 0xCB 0xC5. R254 -/
  | set0L
  /-- `SET 0,(HL)`: 0xCB 0xC6. R255 -/
  | set0AtHL
  /-- `SET 0,A`: 0xCB 0xC7. R254 -/
  | set0A
  /-- `SET 1,B`: 0xCB 0xC8. R254 -/
  | set1B
  /-- `SET 1,C`: 0xCB 0xC9. R254 -/
  | set1C
  /-- `SET 1,D`: 0xCB 0xCA. R254 -/
  | set1D
  /-- `SET 1,E`: 0xCB 0xCB. R254 -/
  | set1E
  /-- `SET 1,H`: 0xCB 0xCC. R254 -/
  | set1H
  /-- `SET 1,L`: 0xCB 0xCD. R254 -/
  | set1L
  /-- `SET 1,(HL)`: 0xCB 0xCE. R255 -/
  | set1AtHL
  /-- `SET 1,A`: 0xCB 0xCF. R254 -/
  | set1A
  /-- `SET 2,B`: 0xCB 0xD0. R254 -/
  | set2B
  /-- `SET 2,C`: 0xCB 0xD1. R254 -/
  | set2C
  /-- `SET 2,D`: 0xCB 0xD2. R254 -/
  | set2D
  /-- `SET 2,E`: 0xCB 0xD3. R254 -/
  | set2E
  /-- `SET 2,H`: 0xCB 0xD4. R254 -/
  | set2H
  /-- `SET 2,L`: 0xCB 0xD5. R254 -/
  | set2L
  /-- `SET 2,(HL)`: 0xCB 0xD6. R255 -/
  | set2AtHL
  /-- `SET 2,A`: 0xCB 0xD7. R254 -/
  | set2A
  /-- `SET 3,B`: 0xCB 0xD8. R254 -/
  | set3B
  /-- `SET 3,C`: 0xCB 0xD9. R254 -/
  | set3C
  /-- `SET 3,D`: 0xCB 0xDA. R254 -/
  | set3D
  /-- `SET 3,E`: 0xCB 0xDB. R254 -/
  | set3E
  /-- `SET 3,H`: 0xCB 0xDC. R254 -/
  | set3H
  /-- `SET 3,L`: 0xCB 0xDD. R254 -/
  | set3L
  /-- `SET 3,(HL)`: 0xCB 0xDE. R255 -/
  | set3AtHL
  /-- `SET 3,A`: 0xCB 0xDF. R254 -/
  | set3A
  /-- `SET 4,B`: 0xCB 0xE0. R254 -/
  | set4B
  /-- `SET 4,C`: 0xCB 0xE1. R254 -/
  | set4C
  /-- `SET 4,D`: 0xCB 0xE2. R254 -/
  | set4D
  /-- `SET 4,E`: 0xCB 0xE3. R254 -/
  | set4E
  /-- `SET 4,H`: 0xCB 0xE4. R254 -/
  | set4H
  /-- `SET 4,L`: 0xCB 0xE5. R254 -/
  | set4L
  /-- `SET 4,(HL)`: 0xCB 0xE6. R255 -/
  | set4AtHL
  /-- `SET 4,A`: 0xCB 0xE7. R254 -/
  | set4A
  /-- `SET 5,B`: 0xCB 0xE8. R254 -/
  | set5B
  /-- `SET 5,C`: 0xCB 0xE9. R254 -/
  | set5C
  /-- `SET 5,D`: 0xCB 0xEA. R254 -/
  | set5D
  /-- `SET 5,E`: 0xCB 0xEB. R254 -/
  | set5E
  /-- `SET 5,H`: 0xCB 0xEC. R254 -/
  | set5H
  /-- `SET 5,L`: 0xCB 0xED. R254 -/
  | set5L
  /-- `SET 5,(HL)`: 0xCB 0xEE. R255 -/
  | set5AtHL
  /-- `SET 5,A`: 0xCB 0xEF. R254 -/
  | set5A
  /-- `SET 6,B`: 0xCB 0xF0. R254 -/
  | set6B
  /-- `SET 6,C`: 0xCB 0xF1. R254 -/
  | set6C
  /-- `SET 6,D`: 0xCB 0xF2. R254 -/
  | set6D
  /-- `SET 6,E`: 0xCB 0xF3. R254 -/
  | set6E
  /-- `SET 6,H`: 0xCB 0xF4. R254 -/
  | set6H
  /-- `SET 6,L`: 0xCB 0xF5. R254 -/
  | set6L
  /-- `SET 6,(HL)`: 0xCB 0xF6. R255 -/
  | set6AtHL
  /-- `SET 6,A`: 0xCB 0xF7. R254 -/
  | set6A
  /-- `SET 7,B`: 0xCB 0xF8. R254 -/
  | set7B
  /-- `SET 7,C`: 0xCB 0xF9. R254 -/
  | set7C
  /-- `SET 7,D`: 0xCB 0xFA. R254 -/
  | set7D
  /-- `SET 7,E`: 0xCB 0xFB. R254 -/
  | set7E
  /-- `SET 7,H`: 0xCB 0xFC. R254 -/
  | set7H
  /-- `SET 7,L`: 0xCB 0xFD. R254 -/
  | set7L
  /-- `SET 7,(HL)`: 0xCB 0xFE. R255 -/
  | set7AtHL
  /-- `SET 7,A`: 0xCB 0xFF. R254 -/
  | set7A
deriving DecidableEq, Repr

end Sys2Proof
end

