-- ==== Sys2Proof/Machine/Operands.lean ====
section
/-! DEFINITION. Reading and writing registers: the 8-bit registers and their 16-bit views (10_state.md R21 to
R25), and the operand selectors of 30_encoding.md R113 to R116. -/

namespace Sys2Proof.Machine

/-- H = HL[15:8] (R22). -/
def State.h (s : State) : Byte := hiByte s.hl

/-- L = HL[7:0] (R22). -/
def State.l (s : State) : Byte := loByte s.hl

/-- BC = {B, C} (R23). -/
def State.bc (s : State) : Word := joinBytes s.b s.c

/-- DE = {D, E} (R23). -/
def State.de (s : State) : Word := joinBytes s.d s.e

/-- An 8-bit register (R113). -/
def State.getReg8 (s : State) : Reg8 → Byte
  | .b => s.b
  | .c => s.c
  | .d => s.d
  | .e => s.e
  | .h => s.h
  | .l => s.l
  | .a => s.a

/-- Write an 8-bit register; "a write to H or L changes exactly that byte of HL" (R22). -/
def State.setReg8 (s : State) (r : Reg8) (v : Byte) : State :=
  match r with
  | .b => { s with b := v }
  | .c => { s with c := v }
  | .d => { s with d := v }
  | .e => { s with e := v }
  | .h => { s with hl := joinBytes v s.l }
  | .l => { s with hl := joinBytes s.h v }
  | .a => { s with a := v }

/-- A 16-bit register of `r16` (R114). -/
def State.getPair (s : State) : Pair → Word
  | .bc => s.bc
  | .de => s.de
  | .hl => s.hl
  | .sp => s.sp

/-- Write a 16-bit register of `r16`; for BC, DE the two bytes (R23). -/
def State.setPair (s : State) (p : Pair) (v : Word) : State :=
  match p with
  | .bc => { s with b := hiByte v, c := loByte v }
  | .de => { s with d := hiByte v, e := loByte v }
  | .hl => { s with hl := v }
  | .sp => { s with sp := v }

/-- The four flags together (R24). -/
structure Flags where
  z : Bool
  n : Bool
  h : Bool
  c : Bool
deriving DecidableEq, Repr

/-- The four flags of a state. -/
def State.flags (s : State) : Flags := ⟨s.fZ, s.fN, s.fH, s.fC⟩

/-- Write the four flags. -/
def State.setFlags (s : State) (f : Flags) : State :=
  { s with fZ := f.z, fN := f.n, fH := f.h, fC := f.c }

/-- Reading F packs the flags: `{fZ, fN, fH, fC, 0, 0, 0, 0}` (R25). -/
def Flags.pack (f : Flags) : Byte :=
  bitOf f.z ++ bitOf f.n ++ bitOf f.h ++ bitOf f.c ++ 0#4

/-- Writing F takes bits 7 to 4 and "drops `v[3:0]`" (R25). -/
def Flags.unpack (v : Byte) : Flags := ⟨v.getLsbD 7, v.getLsbD 6, v.getLsbD 5, v.getLsbD 4⟩

/-- The virtual flag byte F (R25). -/
def State.f (s : State) : Byte := s.flags.pack

/-- A pair of `r16s` (R115); AF = {A, F} (R23). -/
def State.getStackPair (s : State) : StackPair → Word
  | .bc => s.bc
  | .de => s.de
  | .hl => s.hl
  | .af => joinBytes s.a s.f

/-- Write a pair of `r16s`; for AF, A and the four flags (R285). -/
def State.setStackPair (s : State) (p : StackPair) (v : Word) : State :=
  match p with
  | .bc => s.setPair .bc v
  | .de => s.setPair .de v
  | .hl => s.setPair .hl v
  | .af => { s with a := hiByte v }.setFlags (Flags.unpack (loByte v))

/-- `cond(c)` (46_control_flow.md R260). -/
def State.cond (s : State) : Cond → Bool
  | .nz => !s.fZ
  | .z => s.fZ
  | .nc => !s.fC
  | .c => s.fC

end Sys2Proof.Machine
end

