-- ==== Sys2Proof/Machine/Flags.lean ====
section
/-! DEFINITION. The arithmetic, logic, rotate, shift and decimal-adjust functions: each takes the operands and
what it reads of the flags, and returns the result with the flags after it. Sums are exact on naturals and
narrowed at the end (00_scope.md R9). -/

namespace Sys2Proof.Machine

/-- `add8(a, v, cin)` (42_alu_a.md R180). -/
def add8 (a v : Byte) (cin : Bool) : Byte × Flags :=
  let s := a.toNat + v.toNat + cin.toNat
  let r := BitVec.ofNat 8 s
  (r, { z := r == 0#8, n := false
        h := decide (a.toNat % 16 + v.toNat % 16 + cin.toNat > 0x0F), c := decide (s > 0xFF) })

/-- `sub8(a, v, cin)` (42_alu_a.md R181). -/
def sub8 (a v : Byte) (cin : Bool) : Byte × Flags :=
  let r := a - v - BitVec.ofNat 8 cin.toNat
  (r, { z := r == 0#8, n := true
        h := decide (a.toNat % 16 < v.toNat % 16 + cin.toNat), c := decide (a.toNat < v.toNat + cin.toNat) })

/-- `and8(a, v)` (42_alu_a.md R182). -/
def and8 (a v : Byte) : Byte × Flags :=
  let r := a &&& v
  (r, { z := r == 0#8, n := false, h := true, c := false })

/-- `xor8(a, v)` (42_alu_a.md R182). -/
def xor8 (a v : Byte) : Byte × Flags :=
  let r := a ^^^ v
  (r, { z := r == 0#8, n := false, h := false, c := false })

/-- `or8(a, v)` (42_alu_a.md R182). -/
def or8 (a v : Byte) : Byte × Flags :=
  let r := a ||| v
  (r, { z := r == 0#8, n := false, h := false, c := false })

/-- One ALU operation: the byte A holds after it and the flags. ADC and SBC read the old fC (R186, R192); CP is
SUB "with the returned byte discarded" (R204). -/
def aluResult (op : AluOp) (a v : Byte) (carry : Bool) : Byte × Flags :=
  match op with
  | .add => add8 a v false
  | .adc => add8 a v carry
  | .sub => sub8 a v false
  | .sbc => sub8 a v carry
  | .and => and8 a v
  | .xor => xor8 a v
  | .or => or8 a v
  | .cp => (a, (sub8 a v false).2)

/-- `inc8(v)`: "fC unchanged" (41_incdec.md R170). -/
def inc8 (v : Byte) (f : Flags) : Byte × Flags :=
  let r := v + 1#8
  (r, { f with z := r == 0#8, n := false, h := v &&& 0x0F#8 == 0x0F#8 })

/-- `dec8(v)`: "fC unchanged" (41_incdec.md R171). -/
def dec8 (v : Byte) (f : Flags) : Byte × Flags :=
  let r := v - 1#8
  (r, { f with z := r == 0#8, n := true, h := v &&& 0x0F#8 == 0x00#8 })

/-- `ADD HL,rr`: "fZ unchanged" (43_add16_sp.md R210). -/
def add16 (a v : Word) (f : Flags) : Word × Flags :=
  let s := a.toNat + v.toNat
  (BitVec.ofNat 16 s,
    { f with n := false, h := decide (a.toNat % 0x1000 + v.toNat % 0x1000 > 0x0FFF), c := decide (s > 0xFFFF) })

/-- `spadd(e)`: the flags from the unsigned low byte of SP and the unsigned operand byte, the sum signed
(43_add16_sp.md R211). -/
def spAdd (sp : Word) (e : Byte) : Word × Flags :=
  (sp + signExtend16 e,
    { z := false, n := false
      h := decide (sp.toNat % 0x10 + e.toNat % 0x10 > 0x0F), c := decide (sp.toNat % 0x100 + e.toNat > 0xFF) })

/-- The byte and the carry out of a rotate or shift of `v` with carry in `cin` (44_rotates_shifts.md R224 to R231). -/
def shiftBits (op : ShiftOp) (v : Byte) (cin : Bool) : Byte × Bool :=
  let up : BitVec 7 := v.extractLsb' 0 7
  let down : BitVec 7 := v.extractLsb' 1 7
  let top := v.getLsbD 7
  let low := v.getLsbD 0
  match op with
  | .rlc => (up ++ bitOf top, top)
  | .rrc => (bitOf low ++ down, low)
  | .rl => (up ++ bitOf cin, top)
  | .rr => (bitOf cin ++ down, low)
  | .sla => (up ++ bitOf false, top)
  | .sra => (bitOf top ++ down, low)
  | .swap => (v.extractLsb' 0 4 ++ v.extractLsb' 4 4, false)
  | .srl => (bitOf false ++ down, low)

/-- An extended-page rotate or shift: `fZ <- (r = 0); fN <- 0; fH <- 0` and fC as R224 to R231 state. -/
def shift8 (op : ShiftOp) (v : Byte) (cin : Bool) : Byte × Flags :=
  let p := shiftBits op v cin
  (p.1, { z := p.1 == 0#8, n := false, h := false, c := p.2 })

/-- An accumulator rotate: as the extended form but "fZ <- 0" (44_rotates_shifts.md R220 to R223). -/
def rotateA (op : ShiftOp) (v : Byte) (cin : Bool) : Byte × Flags :=
  let p := shiftBits op v cin
  (p.1, { z := false, n := false, h := false, c := p.2 })

/-- The adjustment DAA adds or subtracts (48_daa_misc.md R290): "Both tests of the addition branch look at the
old `a`", and "in the subtraction branch A's own value selects nothing". -/
def daaAdjust (a : Byte) (f : Flags) : Byte :=
  let high := f.c || (!f.n && decide (a.toNat > 0x99))
  let low := f.h || (!f.n && decide (a.toNat % 16 > 9))
  (if high then 0x60#8 else 0x00#8) ||| (if low then 0x06#8 else 0x00#8)

/-- `DAA` as "a pure function of the old A, fN, fH, fC" (48_daa_misc.md R290). -/
def daa (a : Byte) (f : Flags) : Byte × Flags :=
  let r := if f.n then a - daaAdjust a f else a + daaAdjust a f
  (r, { z := r == 0#8, n := f.n, h := false, c := f.c || (!f.n && decide (a.toNat > 0x99)) })

/-- Bit `b` of a byte (45_bit_ops.md). -/
def testBit (b : Fin 8) (v : Byte) : Bool := v.getLsbD b.val

/-- `BIT`: `fZ <- (v[b] = 0); fN <- 0; fH <- 1`, fC unchanged (45_bit_ops.md R250). -/
def bitFlags (b : Fin 8) (v : Byte) (f : Flags) : Flags :=
  { f with z := !testBit b v, n := false, h := true }

/-- `RES`: `v & ~(1 << b)` (45_bit_ops.md R252). -/
def resetBit (b : Fin 8) (v : Byte) : Byte := v &&& ~~~(1#8 <<< b.val)

/-- `SET`: `v | (1 << b)` (45_bit_ops.md R254). -/
def setBit (b : Fin 8) (v : Byte) : Byte := v ||| (1#8 <<< b.val)

end Sys2Proof.Machine
end

