-- ==== Sys2Proof/Config.lean ====
section
/-! DEFINITION. What the spec leaves to no rule at all: the byte of an absent ROM bank, and what the environment does. -/

namespace Sys2Proof

/-- The byte a read of a ROM bank the image does not have returns: "an unspecified byte: any value,
possibly different at each read" (20_memory.md R64). A FREE VALUE: it has no body, so no proof can know it.
Its first argument is the counter `Bus.freeReads`, which the step advances between an instruction's fetch,
its execution and the interrupt check; its second is the address read (log 5). -/
opaque Config.absentRomByte : Nat → Word → Byte

/-- The environment's move at a boundary for which no move is given: "A model must admit every such move at every
boundary" (00_scope.md R15). A FREE VALUE: it has no body, so no proof can know it. Its argument is the whole state at
the boundary, since nothing says that the environment does not look at what the core does; the counter
`Bus.freeReads` in it is another one at each boundary of a run, so each move is free on its own (log 4). -/
opaque Config.freeEnvMove : Machine.State → Machine.EnvMove

end Sys2Proof
end

