-- ==== Sys2Proof/Machine/Ops.lean ====
section
/-! DEFINITION. The named operations every instruction goes through: byte storage, the bus read and write
(20_memory.md), the stack (47_stack.md), faults and interrupts (60_exceptions.md), the environment's moves
(00_scope.md R15) and the cartridge load (70_reset_and_hazards.md). -/

namespace Sys2Proof.Machine

/-! ## Byte storage -/

/-- What an address with no entry reads as (log 1). -/
def Memory.unlisted : Byte := 0x00#8

/-- The canonical form: strictly rising addresses, no entry equal to what an unlisted address reads as. -/
abbrev Memory.wf (m : Memory) : Prop :=
  m.Pairwise (fun x y => x.1 < y.1) ∧ ∀ x ∈ m, x.2 ≠ Memory.unlisted

/-- The byte at an address. -/
def Memory.read : Memory → Nat → Byte
  | [], _ => Memory.unlisted
  | x :: m, k => if x.1 = k then x.2 else Memory.read m k

/-- Store a byte, keeping the canonical form. -/
def Memory.write : Memory → Nat → Byte → Memory
  | [], k, v => if v = Memory.unlisted then [] else [(k, v)]
  | x :: m, k, v =>
    if k < x.1 then (if v = Memory.unlisted then x :: m else (k, v) :: x :: m)
    else if k = x.1 then (if v = Memory.unlisted then m else (k, v) :: m)
    else x :: Memory.write m k v

/-- Add an address to a strictly rising list of addresses. -/
def insertAddress (k : Nat) : List Nat → List Nat
  | [] => [k]
  | x :: l => if k < x then k :: x :: l else if k = x then x :: l else x :: insertAddress k l

/-! ## Addresses -/

/-- The storage byte of an address: an echo address 0xE000..0xFDFF "shares its byte with the address 0x2000
below it" (10_state.md R41, 20_memory.md R85). -/
def storageKey (a : Word) : Nat :=
  if 0xE000 ≤ a.toNat ∧ a.toNat ≤ 0xFDFF then a.toNat - 0x2000 else a.toNat

/-- The independent writable bytes (10_state.md R41): 0x8000..0xFFFF less the echo range 0xE000..0xFDFF. DEDUCED: these
ranges leave 25088 bytes where R41 writes the difference as 24064; the model takes the ranges (log 19). -/
abbrev isStorageKey (k : Nat) : Prop := 0x8000 ≤ k ∧ k ≤ 0xFFFF ∧ ¬ (0xE000 ≤ k ∧ k ≤ 0xFDFF)

/-- I/O register addresses (10_state.md R36, R37, R42 to R48). -/
def addrP1 : Nat := 0xFF00
def addrDIV : Nat := 0xFF04
def addrIF : Nat := 0xFF0F
def addrLCDC : Nat := 0xFF40
def addrSTAT : Nat := 0xFF41
def addrLY : Nat := 0xFF44
def addrDMA : Nat := 0xFF46
def addrBGP : Nat := 0xFF47
def addrOBP0 : Nat := 0xFF48
def addrOBP1 : Nat := 0xFF49
def addrIE : Nat := 0xFFFF

/-! ## Bus reads -/

/-- The bank shown at 0x4000..0x7FFF: "`bank = ROMBANK` if `CART_TYPE = mbc1` and `bank = 1` if
`CART_TYPE = none`" (20_memory.md R64). -/
def Bus.bank (b : Bus) : Nat :=
  match b.cartType with
  | .mbc1 => b.romBank.toNat
  | .none => 1

/-- The image offset of an address of 0x4000..0x7FFF (R64). -/
def Bus.bankOffset (b : Bus) (a : Word) : Nat := b.bank * 0x4000 + (a.toNat - 0x4000)

/-- The bus `read` (20_memory.md R62 to R65): "a total function of the state". The byte of a bank the image does
not have is free (R64, log 5). -/
def Bus.read (b : Bus) (a : Word) : Byte :=
  if a.toNat ≤ 0x3FFF then b.rom.read a.toNat
  else if a.toNat ≤ 0x7FFF then
    if b.romSize ≤ b.bank * 0x4000 then Config.absentRomByte b.freeReads a
    else b.rom.read (b.bankOffset a)
  else b.mem.read (storageKey a)

/-! ## Bus writes -/

/-- `MEM[a] <- v`, with no side effect (R85, R86). -/
def Bus.store (b : Bus) (a : Word) (v : Byte) : Bus := { b with mem := b.mem.write (storageKey a) v }

/-- Class (1), addresses below 0x8000 (R68 to R73). -/
def Bus.writeRom (b : Bus) (a : Word) (v : Byte) : Bus :=
  match b.cartType with
  | .none => b
  | .mbc1 =>
    if a.toNat ≤ 0x1FFF then b
    else if a.toNat ≤ 0x3FFF then
      let n := v.extractLsb' 0 5
      { b with romBank := if n = 0#5 then 1#5 else n }
    else if a.toNat ≤ 0x5FFF then b
    else { b with mbc1Mode := v.getLsbD 0 }

/-- The decomposed LCDC fields of a byte (10_state.md R44, R49). -/
def LcdcFields.ofByte (v : Byte) : LcdcFields :=
  ⟨v.getLsbD 7, v.getLsbD 6, v.getLsbD 5, v.getLsbD 4, v.getLsbD 3, v.getLsbD 2, v.getLsbD 1, v.getLsbD 0⟩

/-- STAT's mode field (10_state.md R45). -/
def StatMode.ofBits (hi lo : Bool) : StatMode :=
  match hi, lo with
  | false, false => .mode0
  | false, true => .mode1
  | true, false => .mode2
  | true, true => .mode3

/-- The decomposed STAT fields of a byte (10_state.md R45, R49). -/
def StatFields.ofByte (v : Byte) : StatFields :=
  ⟨v.getLsbD 6, v.getLsbD 5, v.getLsbD 4, v.getLsbD 3, v.getLsbD 2, StatMode.ofBits (v.getLsbD 1) (v.getLsbD 0)⟩

/-- "slot `k` (k = 0..3) of a palette byte `v` is `v[2k+1 : 2k]`" (10_state.md R49). -/
def PaletteSlots.ofByte (v : Byte) : PaletteSlots :=
  ⟨v.extractLsb' 0 2, v.extractLsb' 2 2, v.extractLsb' 4 2, v.extractLsb' 6 2⟩

/-- Storage after the first `n` bytes of an OAM copy from `src` (20_memory.md R79): ascending, each byte read
with the bus read, stored directly. -/
def Bus.dmaMem (b : Bus) (src : Word) : Nat → Memory
  | 0 => b.mem
  | n + 1 =>
    let m := b.dmaMem src n
    m.write (0xFE00 + n) ({ b with mem := m }.read (src + BitVec.ofNat 16 n))

/-- The copy a write of `v` to the DMA register makes: 160 bytes from `v << 8` (20_memory.md R79). -/
def Bus.copyOam (b : Bus) (v : Byte) : Bus := { b with mem := b.dmaMem (joinBytes v 0x00#8) 160 }

/-- A write of `v` to LCDC: the byte stored, the fields refreshed, LY cleared when bit 7 changes (R77). -/
def Bus.writeLcdc (b : Bus) (a : Word) (v : Byte) : Bus :=
  let m := b.mem.write (storageKey a) v
  { b with
    mem := if (b.mem.read addrLCDC).getLsbD 7 != v.getLsbD 7 then m.write addrLY 0x00#8 else m
    lcdc := LcdcFields.ofByte v }

/-- Class (2), 0xFF00..0xFFFF: "each address has individual behavior" (R74 to R83). -/
def Bus.writeIo (b : Bus) (a : Word) (v : Byte) : Bus :=
  if a.toNat = addrP1 then { b with joypadOut := b.joypadOut ++ [v] }
  else if a.toNat = addrDIV then b.store a 0x00#8
  else if a.toNat = addrLY then b.store a 0x00#8
  else if a.toNat = addrLCDC then b.writeLcdc a v
  else if a.toNat = addrSTAT then { b.store a v with stat := StatFields.ofByte v }
  else if a.toNat = addrDMA then (b.store a v).copyOam v
  else if a.toNat = addrBGP then { b.store a v with bgp := PaletteSlots.ofByte v }
  else if a.toNat = addrOBP0 then { b.store a v with obp0 := PaletteSlots.ofByte v }
  else if a.toNat = addrOBP1 then { b.store a v with obp1 := PaletteSlots.ofByte v }
  else if a.toNat = addrIF ∨ a.toNat = addrIE then b.store a (v &&& 0x1F#8)
  else b.store a v

/-- The bus `write` (R67), classified in the rule's order. -/
def Bus.write (b : Bus) (a : Word) (v : Byte) : Bus :=
  if a.toNat ≤ 0x7FFF then b.writeRom a v
  else if 0xFF00 ≤ a.toNat then b.writeIo a v
  else if a.toNat ≤ 0x9FFF then { b.store a v with vramDirty := insertAddress a.toNat b.vramDirty }
  else b.store a v

/-! ## The CPU's accesses -/

/-- `MemRead(addr, 1)` (00_scope.md R11). -/
def State.read (s : State) (a : Word) : Byte := s.bus.read a

/-- `MemWrite(addr, 1, v)` (00_scope.md R11). -/
def State.write (s : State) (a : Word) (v : Byte) : State := { s with bus := s.bus.write a v }

/-- `MemWrite(addr, 2, v)`: low byte first, at `addr` (20_memory.md R87). -/
def State.write16 (s : State) (a : Word) (v : Word) : State :=
  (s.write a (loByte v)).write (a + 1#16) (hiByte v)

/-- The step's elapsed-cycle count (10_state.md R51). -/
def State.tick (s : State) (n : Nat) : State := { s with cycles := some n }

/-- Set PC. -/
def State.setPc (s : State) (t : Word) : State := { s with pc := t }

/-- `push16(v)`: high byte first, SP pre-decremented for each byte (47_stack.md R280). -/
def State.push16 (s : State) (v : Word) : State :=
  let s1 := { s with sp := s.sp - 1#16 }
  let s2 := s1.write s1.sp (hiByte v)
  let s3 := { s2 with sp := s2.sp - 1#16 }
  s3.write s3.sp (loByte v)

/-- The value `pop16()` returns: low byte from SP, high byte from SP + 1 (47_stack.md R281). -/
def State.popValue (s : State) : Word := joinBytes (s.read (s.sp + 1#16)) (s.read s.sp)

/-- `pop16()`'s effect: SP is 2 more, "Memory is not changed" (47_stack.md R281). -/
def State.popSp (s : State) : State := { s with sp := s.sp + 2#16 }

/-- Advance the MODEL's free-value counter (log 5): between fetch, execution and interrupt check. -/
def State.freshReads (s : State) : State := { s with bus := { s.bus with freeReads := s.bus.freeReads + 1 } }

/-! ## Faults -/

/-- `raise K(pc, byte)` (60_exceptions.md R324): the record is latched, "no cycle count is returned", and nothing
else changes; PC stays where the opcode fetch left it. -/
def State.raiseFault (s : State) (k : FaultKind) (start : Word) (byte : Byte) : State :=
  { s with fault := some ⟨k, start, byte⟩, cycles := none }

/-! ## Interrupts -/

/-- `pending = IE & IF & 0x1F` (60_exceptions.md R328). -/
def State.pending (s : State) : BitVec 5 :=
  (s.bus.mem.read addrIE).setWidth 5 &&& (s.bus.mem.read addrIF).setWidth 5

/-- "the least i in 0..4 with pending[i] = 1" (R328, R331). -/
def lowestPending (p : BitVec 5) : Option (Fin 5) :=
  if p.getLsbD 0 then some 0
  else if p.getLsbD 1 then some 1
  else if p.getLsbD 2 then some 2
  else if p.getLsbD 3 then some 3
  else if p.getLsbD 4 then some 4
  else none

/-- `vector(i) = 0x0040 + 8 * i` (R333). -/
def interruptVector (i : Fin 5) : Word := BitVec.ofNat 16 (0x0040 + 8 * i.val)

/-- `dispatch(i)` (R332): IME and halted cleared, the request cleared, PC pushed, PC at the vector. -/
def State.dispatch (s : State) (i : Fin 5) : State :=
  let req := (s.bus.mem.read addrIF) &&& ~~~(1#8 <<< i.val)
  let s1 := { s with ime := false, halted := false, bus := { s.bus with mem := s.bus.mem.write addrIF req } }
  { s1.push16 s1.pc with pc := interruptVector i }

/-- `check()` (R328): the halt exit "independent of IME" (R329), then the dispatch if IME (R330). -/
def State.interruptCheck (s : State) : State :=
  match lowestPending s.pending with
  | none => { s with dispatchCycles := some 0 }
  | some i =>
    let s1 := { s with halted := false }
    if s1.ime then { s1.dispatch i with dispatchCycles := some 20 } else { s1 with dispatchCycles := some 0 }

/-- The return from an interrupt handler, RETI (46_control_flow.md R270): "RETI restores nothing but PC", and
sets IME. -/
def State.returnFromInterrupt (s : State) : State := { s.popSp with pc := s.popValue, ime := true }

/-! ## The environment -/

/-- The writes of an environment move to storage: any byte of 0xFF00..0xFF7F "other than IF (0xFF0F)" (00_scope.md
R15). -/
def envWrites (m : Memory) : List (BitVec 7 × Byte) → Memory
  | [] => m
  | x :: l => envWrites (if 0xFF00 + x.1.toNat = addrIF then m else m.write (0xFF00 + x.1.toNat) x.2) l

/-- One environment move (R15): bytes replaced, then IF bits set, "never clear one". -/
def State.applyEnv (s : State) (mv : EnvMove) : State :=
  let m := envWrites s.bus.mem mv.writes
  { s with bus := { s.bus with mem := m.write addrIF (m.read addrIF ||| mv.requests.setWidth 8) } }

/-- The environment's move at this boundary and the given moves left after it: the next given one; where those are
spent, the moves of the cycle over again; where there is no cycle, a free one, at this boundary and at every later one
(R15; log 4). -/
def State.nextEnvMove (s : State) : EnvMove × List EnvMove :=
  match s.env, s.envCycle with
  | mv :: rest, _ => (mv, rest)
  | [], mv :: rest => (mv, rest)
  | [], [] => (Config.freeEnvMove s, [])

/-- The environment's turn at a boundary (R15). -/
def State.environmentTurn (s : State) : State := { s.applyEnv s.nextEnvMove.1 with env := s.nextEnvMove.2 }

/-! ## The cartridge load -/

/-- A cartridge image: its length, and its bytes by offset (00_scope.md R7; an offset not listed is 0x00). -/
structure Cartridge where
  size  : Nat
  bytes : Memory
deriving DecidableEq, Repr

/-- "a multiple of 0x4000 and at least 0x8000" (R7, R371). -/
abbrev Cartridge.sizeOk (c : Cartridge) : Prop := c.size % 0x4000 = 0 ∧ 0x8000 ≤ c.size

/-- The cartridge-type byte `ROM[0x0147]` (20_memory.md R96). -/
def Cartridge.typeByte (c : Cartridge) : Byte := c.bytes.read 0x0147

/-- The cells of a list whose key satisfies a test, in canonical form. -/
def cellsWhere (keep : Nat → Bool) : Memory → Memory
  | [] => []
  | x :: m => if keep x.1 then (cellsWhere keep m).write x.1 x.2 else cellsWhere keep m

/-- Storage after reset: `RESET_MEM` "for 0x8000-0xFFFF except IF and IE", which are 0 (R372, R373). -/
def resetStorage (resetMem : Memory) : Memory :=
  cellsWhere (fun k => decide (isStorageKey k ∧ k ≠ addrIF ∧ k ≠ addrIE)) resetMem

/-- `reset(ROM)` (70_reset_and_hazards.md R371, R372), with `RESET_MEM` and what the environment will do (any
given moves, then any cycle of moves or, with no cycle, free ones, log 4) as arguments; none where the image's size is
refused. An unsupported type byte gives a state whose fault register is
set (60_exceptions.md R323). -/
def State.load (c : Cartridge) (resetMem : Memory) (env envCycle : List EnvMove) : Option State :=
  if c.sizeOk then
    let t := c.typeByte
    some { State.reset with
      fault := if t = 0x00#8 ∨ t = 0x01#8 then none else some ⟨.unsupportedCartridgeType, 0x0147#16, t⟩
      bus := { Bus.reset with
        cartType := if t = 0x01#8 then .mbc1 else .none
        romSize := c.size
        rom := cellsWhere (fun k => decide (k < c.size)) c.bytes
        mem := resetStorage resetMem }
      env := env
      envCycle := envCycle }
  else none

end Sys2Proof.Machine
end

