-- ==== Sys2Proof/Machine/Add16.lean ====
section
/-! DEFINITION. Meanings of 43_add16_sp.md R210 to R213: ADD HL,rr; ADD SP,e8; LD HL,SP+e8.
The shared operations come first, then one meaning for each row of the table. An operand is what the instruction's
bytes held; PC has been advanced past them (10_state.md R28). -/

namespace Sys2Proof.Machine

/-- `ADD HL,rr` (R210). -/
def addHL (p : Pair) (s : State) : State :=
  let q := add16 s.hl (s.getPair p) s.flags
  ((s.setPair .hl q.1).setFlags q.2).tick 8

/-- `SP <- spadd(e)` (R212). -/
def addSP (e : Byte) (s : State) : State :=
  let q := spAdd s.sp e
  ((s.setPair .sp q.1).setFlags q.2).tick 16

/-- `HL <- spadd(e)`; "SP is not written" (R213). -/
def loadHLSP (e : Byte) (s : State) : State :=
  let q := spAdd s.sp e
  ((s.setPair .hl q.1).setFlags q.2).tick 12

/-- `ADD HL,BC` (R210). -/
def execAddHLBC (s : State) : Result := .next (addHL .bc s)

/-- `ADD HL,DE` (R210). -/
def execAddHLDE (s : State) : Result := .next (addHL .de s)

/-- `ADD HL,HL` (R210). -/
def execAddHLHL (s : State) : Result := .next (addHL .hl s)

/-- `ADD HL,SP` (R210). -/
def execAddHLSP (s : State) : Result := .next (addHL .sp s)

/-- `ADD SP,e8` (R212). -/
def execAddSPE8 (e : Byte) (s : State) : Result := .next (addSP e s)

/-- `LD HL,SP+e8` (R213). -/
def execLdHLSPE8 (e : Byte) (s : State) : Result := .next (loadHLSP e s)

end Sys2Proof.Machine
end

