-- ==== Sys2Proof/Machine/AluA.lean ====
section
/-! DEFINITION. Meanings of 42_alu_a.md R180 to R206: arithmetic and logic on A.
The shared operations come first, then one meaning for each row of the table. An operand is what the instruction's
bytes held; PC has been advanced past them (10_state.md R28). -/

namespace Sys2Proof.Machine

/-- One ALU operation on A with second operand `v`, in `k` cycles: "Every instruction of this file writes all
four flags". -/
def aluWith (o : AluOp) (v : Byte) (k : Nat) (s : State) : State :=
  let p := aluResult o s.a v s.fC
  ((s.setReg8 .a p.1).setFlags p.2).tick k

/-- The register form. -/
def aluRegister (o : AluOp) (r : Reg8) (s : State) : State := aluWith o (s.getReg8 r) 4 s

/-- The `(HL)` form. -/
def aluMemory (o : AluOp) (s : State) : State := aluWith o (s.read s.hl) 8 s

/-- The `d8` form. -/
def aluImmediate (o : AluOp) (n : Byte) (s : State) : State := aluWith o n 8 s

/-- `ADD A,B` (R183). -/
def execAddAB (s : State) : Result := .next (aluRegister .add .b s)

/-- `ADD A,C` (R183). -/
def execAddAC (s : State) : Result := .next (aluRegister .add .c s)

/-- `ADD A,D` (R183). -/
def execAddAD (s : State) : Result := .next (aluRegister .add .d s)

/-- `ADD A,E` (R183). -/
def execAddAE (s : State) : Result := .next (aluRegister .add .e s)

/-- `ADD A,H` (R183). -/
def execAddAH (s : State) : Result := .next (aluRegister .add .h s)

/-- `ADD A,L` (R183). -/
def execAddAL (s : State) : Result := .next (aluRegister .add .l s)

/-- `ADD A,(HL)` (R184). -/
def execAddAAtHL (s : State) : Result := .next (aluMemory .add s)

/-- `ADD A,A` (R183). -/
def execAddAA (s : State) : Result := .next (aluRegister .add .a s)

/-- `ADC A,B` (R186). -/
def execAdcAB (s : State) : Result := .next (aluRegister .adc .b s)

/-- `ADC A,C` (R186). -/
def execAdcAC (s : State) : Result := .next (aluRegister .adc .c s)

/-- `ADC A,D` (R186). -/
def execAdcAD (s : State) : Result := .next (aluRegister .adc .d s)

/-- `ADC A,E` (R186). -/
def execAdcAE (s : State) : Result := .next (aluRegister .adc .e s)

/-- `ADC A,H` (R186). -/
def execAdcAH (s : State) : Result := .next (aluRegister .adc .h s)

/-- `ADC A,L` (R186). -/
def execAdcAL (s : State) : Result := .next (aluRegister .adc .l s)

/-- `ADC A,(HL)` (R187). -/
def execAdcAAtHL (s : State) : Result := .next (aluMemory .adc s)

/-- `ADC A,A` (R186). -/
def execAdcAA (s : State) : Result := .next (aluRegister .adc .a s)

/-- `SUB B` (R189). -/
def execSubB (s : State) : Result := .next (aluRegister .sub .b s)

/-- `SUB C` (R189). -/
def execSubC (s : State) : Result := .next (aluRegister .sub .c s)

/-- `SUB D` (R189). -/
def execSubD (s : State) : Result := .next (aluRegister .sub .d s)

/-- `SUB E` (R189). -/
def execSubE (s : State) : Result := .next (aluRegister .sub .e s)

/-- `SUB H` (R189). -/
def execSubH (s : State) : Result := .next (aluRegister .sub .h s)

/-- `SUB L` (R189). -/
def execSubL (s : State) : Result := .next (aluRegister .sub .l s)

/-- `SUB (HL)` (R190). -/
def execSubAtHL (s : State) : Result := .next (aluMemory .sub s)

/-- `SUB A` (R189). -/
def execSubA (s : State) : Result := .next (aluRegister .sub .a s)

/-- `SBC A,B` (R192). -/
def execSbcAB (s : State) : Result := .next (aluRegister .sbc .b s)

/-- `SBC A,C` (R192). -/
def execSbcAC (s : State) : Result := .next (aluRegister .sbc .c s)

/-- `SBC A,D` (R192). -/
def execSbcAD (s : State) : Result := .next (aluRegister .sbc .d s)

/-- `SBC A,E` (R192). -/
def execSbcAE (s : State) : Result := .next (aluRegister .sbc .e s)

/-- `SBC A,H` (R192). -/
def execSbcAH (s : State) : Result := .next (aluRegister .sbc .h s)

/-- `SBC A,L` (R192). -/
def execSbcAL (s : State) : Result := .next (aluRegister .sbc .l s)

/-- `SBC A,(HL)` (R193). -/
def execSbcAAtHL (s : State) : Result := .next (aluMemory .sbc s)

/-- `SBC A,A` (R192). -/
def execSbcAA (s : State) : Result := .next (aluRegister .sbc .a s)

/-- `AND B` (R195). -/
def execAndB (s : State) : Result := .next (aluRegister .and .b s)

/-- `AND C` (R195). -/
def execAndC (s : State) : Result := .next (aluRegister .and .c s)

/-- `AND D` (R195). -/
def execAndD (s : State) : Result := .next (aluRegister .and .d s)

/-- `AND E` (R195). -/
def execAndE (s : State) : Result := .next (aluRegister .and .e s)

/-- `AND H` (R195). -/
def execAndH (s : State) : Result := .next (aluRegister .and .h s)

/-- `AND L` (R195). -/
def execAndL (s : State) : Result := .next (aluRegister .and .l s)

/-- `AND (HL)` (R196). -/
def execAndAtHL (s : State) : Result := .next (aluMemory .and s)

/-- `AND A` (R195). -/
def execAndA (s : State) : Result := .next (aluRegister .and .a s)

/-- `XOR B` (R198). -/
def execXorB (s : State) : Result := .next (aluRegister .xor .b s)

/-- `XOR C` (R198). -/
def execXorC (s : State) : Result := .next (aluRegister .xor .c s)

/-- `XOR D` (R198). -/
def execXorD (s : State) : Result := .next (aluRegister .xor .d s)

/-- `XOR E` (R198). -/
def execXorE (s : State) : Result := .next (aluRegister .xor .e s)

/-- `XOR H` (R198). -/
def execXorH (s : State) : Result := .next (aluRegister .xor .h s)

/-- `XOR L` (R198). -/
def execXorL (s : State) : Result := .next (aluRegister .xor .l s)

/-- `XOR (HL)` (R199). -/
def execXorAtHL (s : State) : Result := .next (aluMemory .xor s)

/-- `XOR A` (R198). -/
def execXorA (s : State) : Result := .next (aluRegister .xor .a s)

/-- `OR B` (R201). -/
def execOrB (s : State) : Result := .next (aluRegister .or .b s)

/-- `OR C` (R201). -/
def execOrC (s : State) : Result := .next (aluRegister .or .c s)

/-- `OR D` (R201). -/
def execOrD (s : State) : Result := .next (aluRegister .or .d s)

/-- `OR E` (R201). -/
def execOrE (s : State) : Result := .next (aluRegister .or .e s)

/-- `OR H` (R201). -/
def execOrH (s : State) : Result := .next (aluRegister .or .h s)

/-- `OR L` (R201). -/
def execOrL (s : State) : Result := .next (aluRegister .or .l s)

/-- `OR (HL)` (R202). -/
def execOrAtHL (s : State) : Result := .next (aluMemory .or s)

/-- `OR A` (R201). -/
def execOrA (s : State) : Result := .next (aluRegister .or .a s)

/-- `CP B` (R204). -/
def execCpB (s : State) : Result := .next (aluRegister .cp .b s)

/-- `CP C` (R204). -/
def execCpC (s : State) : Result := .next (aluRegister .cp .c s)

/-- `CP D` (R204). -/
def execCpD (s : State) : Result := .next (aluRegister .cp .d s)

/-- `CP E` (R204). -/
def execCpE (s : State) : Result := .next (aluRegister .cp .e s)

/-- `CP H` (R204). -/
def execCpH (s : State) : Result := .next (aluRegister .cp .h s)

/-- `CP L` (R204). -/
def execCpL (s : State) : Result := .next (aluRegister .cp .l s)

/-- `CP (HL)` (R205). -/
def execCpAtHL (s : State) : Result := .next (aluMemory .cp s)

/-- `CP A` (R204). -/
def execCpA (s : State) : Result := .next (aluRegister .cp .a s)

/-- `ADD A,d8` (R185). -/
def execAddAD8 (n : Byte) (s : State) : Result := .next (aluImmediate .add n s)

/-- `ADC A,d8` (R188). -/
def execAdcAD8 (n : Byte) (s : State) : Result := .next (aluImmediate .adc n s)

/-- `SUB d8` (R191). -/
def execSubD8 (n : Byte) (s : State) : Result := .next (aluImmediate .sub n s)

/-- `SBC A,d8` (R194). -/
def execSbcAD8 (n : Byte) (s : State) : Result := .next (aluImmediate .sbc n s)

/-- `AND d8` (R197). -/
def execAndD8 (n : Byte) (s : State) : Result := .next (aluImmediate .and n s)

/-- `XOR d8` (R200). -/
def execXorD8 (n : Byte) (s : State) : Result := .next (aluImmediate .xor n s)

/-- `OR d8` (R203). -/
def execOrD8 (n : Byte) (s : State) : Result := .next (aluImmediate .or n s)

/-- `CP d8` (R206). -/
def execCpD8 (n : Byte) (s : State) : Result := .next (aluImmediate .cp n s)

end Sys2Proof.Machine
end

