-- ==== Sys2Proof/Machine/BitOps.lean ====
section
/-! DEFINITION. Meanings of 45_bit_ops.md R250 to R255: BIT, RES, SET.
The shared operations come first, then one meaning for each row of the table. An operand is what the instruction's
bytes held; PC has been advanced past them (10_state.md R28). -/

namespace Sys2Proof.Machine

/-- `BIT b,r`: "The register is not written" (R250). -/
def testRegisterBit (b : Fin 8) (r : Reg8) (s : State) : State :=
  (s.setFlags (bitFlags b (s.getReg8 r) s.flags)).tick 8

/-- `BIT b,(HL)`: "Memory is not written" (R251). -/
def testMemoryBit (b : Fin 8) (s : State) : State :=
  (s.setFlags (bitFlags b (s.read s.hl) s.flags)).tick 12

/-- `RES b,r` (R252). -/
def resetRegisterBit (b : Fin 8) (r : Reg8) (s : State) : State :=
  (s.setReg8 r (resetBit b (s.getReg8 r))).tick 8

/-- `RES b,(HL)`: "the write is performed even when the bit was already 0" (R253). -/
def resetMemoryBit (b : Fin 8) (s : State) : State := (s.write s.hl (resetBit b (s.read s.hl))).tick 16

/-- `SET b,r` (R254). -/
def setRegisterBit (b : Fin 8) (r : Reg8) (s : State) : State :=
  (s.setReg8 r (setBit b (s.getReg8 r))).tick 8

/-- `SET b,(HL)` (R255). -/
def setMemoryBit (b : Fin 8) (s : State) : State := (s.write s.hl (setBit b (s.read s.hl))).tick 16

/-- `BIT 0,B` (R250). -/
def execBit0B (s : State) : Result := .next (testRegisterBit 0 .b s)

/-- `BIT 0,C` (R250). -/
def execBit0C (s : State) : Result := .next (testRegisterBit 0 .c s)

/-- `BIT 0,D` (R250). -/
def execBit0D (s : State) : Result := .next (testRegisterBit 0 .d s)

/-- `BIT 0,E` (R250). -/
def execBit0E (s : State) : Result := .next (testRegisterBit 0 .e s)

/-- `BIT 0,H` (R250). -/
def execBit0H (s : State) : Result := .next (testRegisterBit 0 .h s)

/-- `BIT 0,L` (R250). -/
def execBit0L (s : State) : Result := .next (testRegisterBit 0 .l s)

/-- `BIT 0,(HL)` (R251). -/
def execBit0AtHL (s : State) : Result := .next (testMemoryBit 0 s)

/-- `BIT 0,A` (R250). -/
def execBit0A (s : State) : Result := .next (testRegisterBit 0 .a s)

/-- `BIT 1,B` (R250). -/
def execBit1B (s : State) : Result := .next (testRegisterBit 1 .b s)

/-- `BIT 1,C` (R250). -/
def execBit1C (s : State) : Result := .next (testRegisterBit 1 .c s)

/-- `BIT 1,D` (R250). -/
def execBit1D (s : State) : Result := .next (testRegisterBit 1 .d s)

/-- `BIT 1,E` (R250). -/
def execBit1E (s : State) : Result := .next (testRegisterBit 1 .e s)

/-- `BIT 1,H` (R250). -/
def execBit1H (s : State) : Result := .next (testRegisterBit 1 .h s)

/-- `BIT 1,L` (R250). -/
def execBit1L (s : State) : Result := .next (testRegisterBit 1 .l s)

/-- `BIT 1,(HL)` (R251). -/
def execBit1AtHL (s : State) : Result := .next (testMemoryBit 1 s)

/-- `BIT 1,A` (R250). -/
def execBit1A (s : State) : Result := .next (testRegisterBit 1 .a s)

/-- `BIT 2,B` (R250). -/
def execBit2B (s : State) : Result := .next (testRegisterBit 2 .b s)

/-- `BIT 2,C` (R250). -/
def execBit2C (s : State) : Result := .next (testRegisterBit 2 .c s)

/-- `BIT 2,D` (R250). -/
def execBit2D (s : State) : Result := .next (testRegisterBit 2 .d s)

/-- `BIT 2,E` (R250). -/
def execBit2E (s : State) : Result := .next (testRegisterBit 2 .e s)

/-- `BIT 2,H` (R250). -/
def execBit2H (s : State) : Result := .next (testRegisterBit 2 .h s)

/-- `BIT 2,L` (R250). -/
def execBit2L (s : State) : Result := .next (testRegisterBit 2 .l s)

/-- `BIT 2,(HL)` (R251). -/
def execBit2AtHL (s : State) : Result := .next (testMemoryBit 2 s)

/-- `BIT 2,A` (R250). -/
def execBit2A (s : State) : Result := .next (testRegisterBit 2 .a s)

/-- `BIT 3,B` (R250). -/
def execBit3B (s : State) : Result := .next (testRegisterBit 3 .b s)

/-- `BIT 3,C` (R250). -/
def execBit3C (s : State) : Result := .next (testRegisterBit 3 .c s)

/-- `BIT 3,D` (R250). -/
def execBit3D (s : State) : Result := .next (testRegisterBit 3 .d s)

/-- `BIT 3,E` (R250). -/
def execBit3E (s : State) : Result := .next (testRegisterBit 3 .e s)

/-- `BIT 3,H` (R250). -/
def execBit3H (s : State) : Result := .next (testRegisterBit 3 .h s)

/-- `BIT 3,L` (R250). -/
def execBit3L (s : State) : Result := .next (testRegisterBit 3 .l s)

/-- `BIT 3,(HL)` (R251). -/
def execBit3AtHL (s : State) : Result := .next (testMemoryBit 3 s)

/-- `BIT 3,A` (R250). -/
def execBit3A (s : State) : Result := .next (testRegisterBit 3 .a s)

/-- `BIT 4,B` (R250). -/
def execBit4B (s : State) : Result := .next (testRegisterBit 4 .b s)

/-- `BIT 4,C` (R250). -/
def execBit4C (s : State) : Result := .next (testRegisterBit 4 .c s)

/-- `BIT 4,D` (R250). -/
def execBit4D (s : State) : Result := .next (testRegisterBit 4 .d s)

/-- `BIT 4,E` (R250). -/
def execBit4E (s : State) : Result := .next (testRegisterBit 4 .e s)

/-- `BIT 4,H` (R250). -/
def execBit4H (s : State) : Result := .next (testRegisterBit 4 .h s)

/-- `BIT 4,L` (R250). -/
def execBit4L (s : State) : Result := .next (testRegisterBit 4 .l s)

/-- `BIT 4,(HL)` (R251). -/
def execBit4AtHL (s : State) : Result := .next (testMemoryBit 4 s)

/-- `BIT 4,A` (R250). -/
def execBit4A (s : State) : Result := .next (testRegisterBit 4 .a s)

/-- `BIT 5,B` (R250). -/
def execBit5B (s : State) : Result := .next (testRegisterBit 5 .b s)

/-- `BIT 5,C` (R250). -/
def execBit5C (s : State) : Result := .next (testRegisterBit 5 .c s)

/-- `BIT 5,D` (R250). -/
def execBit5D (s : State) : Result := .next (testRegisterBit 5 .d s)

/-- `BIT 5,E` (R250). -/
def execBit5E (s : State) : Result := .next (testRegisterBit 5 .e s)

/-- `BIT 5,H` (R250). -/
def execBit5H (s : State) : Result := .next (testRegisterBit 5 .h s)

/-- `BIT 5,L` (R250). -/
def execBit5L (s : State) : Result := .next (testRegisterBit 5 .l s)

/-- `BIT 5,(HL)` (R251). -/
def execBit5AtHL (s : State) : Result := .next (testMemoryBit 5 s)

/-- `BIT 5,A` (R250). -/
def execBit5A (s : State) : Result := .next (testRegisterBit 5 .a s)

/-- `BIT 6,B` (R250). -/
def execBit6B (s : State) : Result := .next (testRegisterBit 6 .b s)

/-- `BIT 6,C` (R250). -/
def execBit6C (s : State) : Result := .next (testRegisterBit 6 .c s)

/-- `BIT 6,D` (R250). -/
def execBit6D (s : State) : Result := .next (testRegisterBit 6 .d s)

/-- `BIT 6,E` (R250). -/
def execBit6E (s : State) : Result := .next (testRegisterBit 6 .e s)

/-- `BIT 6,H` (R250). -/
def execBit6H (s : State) : Result := .next (testRegisterBit 6 .h s)

/-- `BIT 6,L` (R250). -/
def execBit6L (s : State) : Result := .next (testRegisterBit 6 .l s)

/-- `BIT 6,(HL)` (R251). -/
def execBit6AtHL (s : State) : Result := .next (testMemoryBit 6 s)

/-- `BIT 6,A` (R250). -/
def execBit6A (s : State) : Result := .next (testRegisterBit 6 .a s)

/-- `BIT 7,B` (R250). -/
def execBit7B (s : State) : Result := .next (testRegisterBit 7 .b s)

/-- `BIT 7,C` (R250). -/
def execBit7C (s : State) : Result := .next (testRegisterBit 7 .c s)

/-- `BIT 7,D` (R250). -/
def execBit7D (s : State) : Result := .next (testRegisterBit 7 .d s)

/-- `BIT 7,E` (R250). -/
def execBit7E (s : State) : Result := .next (testRegisterBit 7 .e s)

/-- `BIT 7,H` (R250). -/
def execBit7H (s : State) : Result := .next (testRegisterBit 7 .h s)

/-- `BIT 7,L` (R250). -/
def execBit7L (s : State) : Result := .next (testRegisterBit 7 .l s)

/-- `BIT 7,(HL)` (R251). -/
def execBit7AtHL (s : State) : Result := .next (testMemoryBit 7 s)

/-- `BIT 7,A` (R250). -/
def execBit7A (s : State) : Result := .next (testRegisterBit 7 .a s)

/-- `RES 0,B` (R252). -/
def execRes0B (s : State) : Result := .next (resetRegisterBit 0 .b s)

/-- `RES 0,C` (R252). -/
def execRes0C (s : State) : Result := .next (resetRegisterBit 0 .c s)

/-- `RES 0,D` (R252). -/
def execRes0D (s : State) : Result := .next (resetRegisterBit 0 .d s)

/-- `RES 0,E` (R252). -/
def execRes0E (s : State) : Result := .next (resetRegisterBit 0 .e s)

/-- `RES 0,H` (R252). -/
def execRes0H (s : State) : Result := .next (resetRegisterBit 0 .h s)

/-- `RES 0,L` (R252). -/
def execRes0L (s : State) : Result := .next (resetRegisterBit 0 .l s)

/-- `RES 0,(HL)` (R253). -/
def execRes0AtHL (s : State) : Result := .next (resetMemoryBit 0 s)

/-- `RES 0,A` (R252). -/
def execRes0A (s : State) : Result := .next (resetRegisterBit 0 .a s)

/-- `RES 1,B` (R252). -/
def execRes1B (s : State) : Result := .next (resetRegisterBit 1 .b s)

/-- `RES 1,C` (R252). -/
def execRes1C (s : State) : Result := .next (resetRegisterBit 1 .c s)

/-- `RES 1,D` (R252). -/
def execRes1D (s : State) : Result := .next (resetRegisterBit 1 .d s)

/-- `RES 1,E` (R252). -/
def execRes1E (s : State) : Result := .next (resetRegisterBit 1 .e s)

/-- `RES 1,H` (R252). -/
def execRes1H (s : State) : Result := .next (resetRegisterBit 1 .h s)

/-- `RES 1,L` (R252). -/
def execRes1L (s : State) : Result := .next (resetRegisterBit 1 .l s)

/-- `RES 1,(HL)` (R253). -/
def execRes1AtHL (s : State) : Result := .next (resetMemoryBit 1 s)

/-- `RES 1,A` (R252). -/
def execRes1A (s : State) : Result := .next (resetRegisterBit 1 .a s)

/-- `RES 2,B` (R252). -/
def execRes2B (s : State) : Result := .next (resetRegisterBit 2 .b s)

/-- `RES 2,C` (R252). -/
def execRes2C (s : State) : Result := .next (resetRegisterBit 2 .c s)

/-- `RES 2,D` (R252). -/
def execRes2D (s : State) : Result := .next (resetRegisterBit 2 .d s)

/-- `RES 2,E` (R252). -/
def execRes2E (s : State) : Result := .next (resetRegisterBit 2 .e s)

/-- `RES 2,H` (R252). -/
def execRes2H (s : State) : Result := .next (resetRegisterBit 2 .h s)

/-- `RES 2,L` (R252). -/
def execRes2L (s : State) : Result := .next (resetRegisterBit 2 .l s)

/-- `RES 2,(HL)` (R253). -/
def execRes2AtHL (s : State) : Result := .next (resetMemoryBit 2 s)

/-- `RES 2,A` (R252). -/
def execRes2A (s : State) : Result := .next (resetRegisterBit 2 .a s)

/-- `RES 3,B` (R252). -/
def execRes3B (s : State) : Result := .next (resetRegisterBit 3 .b s)

/-- `RES 3,C` (R252). -/
def execRes3C (s : State) : Result := .next (resetRegisterBit 3 .c s)

/-- `RES 3,D` (R252). -/
def execRes3D (s : State) : Result := .next (resetRegisterBit 3 .d s)

/-- `RES 3,E` (R252). -/
def execRes3E (s : State) : Result := .next (resetRegisterBit 3 .e s)

/-- `RES 3,H` (R252). -/
def execRes3H (s : State) : Result := .next (resetRegisterBit 3 .h s)

/-- `RES 3,L` (R252). -/
def execRes3L (s : State) : Result := .next (resetRegisterBit 3 .l s)

/-- `RES 3,(HL)` (R253). -/
def execRes3AtHL (s : State) : Result := .next (resetMemoryBit 3 s)

/-- `RES 3,A` (R252). -/
def execRes3A (s : State) : Result := .next (resetRegisterBit 3 .a s)

/-- `RES 4,B` (R252). -/
def execRes4B (s : State) : Result := .next (resetRegisterBit 4 .b s)

/-- `RES 4,C` (R252). -/
def execRes4C (s : State) : Result := .next (resetRegisterBit 4 .c s)

/-- `RES 4,D` (R252). -/
def execRes4D (s : State) : Result := .next (resetRegisterBit 4 .d s)

/-- `RES 4,E` (R252). -/
def execRes4E (s : State) : Result := .next (resetRegisterBit 4 .e s)

/-- `RES 4,H` (R252). -/
def execRes4H (s : State) : Result := .next (resetRegisterBit 4 .h s)

/-- `RES 4,L` (R252). -/
def execRes4L (s : State) : Result := .next (resetRegisterBit 4 .l s)

/-- `RES 4,(HL)` (R253). -/
def execRes4AtHL (s : State) : Result := .next (resetMemoryBit 4 s)

/-- `RES 4,A` (R252). -/
def execRes4A (s : State) : Result := .next (resetRegisterBit 4 .a s)

/-- `RES 5,B` (R252). -/
def execRes5B (s : State) : Result := .next (resetRegisterBit 5 .b s)

/-- `RES 5,C` (R252). -/
def execRes5C (s : State) : Result := .next (resetRegisterBit 5 .c s)

/-- `RES 5,D` (R252). -/
def execRes5D (s : State) : Result := .next (resetRegisterBit 5 .d s)

/-- `RES 5,E` (R252). -/
def execRes5E (s : State) : Result := .next (resetRegisterBit 5 .e s)

/-- `RES 5,H` (R252). -/
def execRes5H (s : State) : Result := .next (resetRegisterBit 5 .h s)

/-- `RES 5,L` (R252). -/
def execRes5L (s : State) : Result := .next (resetRegisterBit 5 .l s)

/-- `RES 5,(HL)` (R253). -/
def execRes5AtHL (s : State) : Result := .next (resetMemoryBit 5 s)

/-- `RES 5,A` (R252). -/
def execRes5A (s : State) : Result := .next (resetRegisterBit 5 .a s)

/-- `RES 6,B` (R252). -/
def execRes6B (s : State) : Result := .next (resetRegisterBit 6 .b s)

/-- `RES 6,C` (R252). -/
def execRes6C (s : State) : Result := .next (resetRegisterBit 6 .c s)

/-- `RES 6,D` (R252). -/
def execRes6D (s : State) : Result := .next (resetRegisterBit 6 .d s)

/-- `RES 6,E` (R252). -/
def execRes6E (s : State) : Result := .next (resetRegisterBit 6 .e s)

/-- `RES 6,H` (R252). -/
def execRes6H (s : State) : Result := .next (resetRegisterBit 6 .h s)

/-- `RES 6,L` (R252). -/
def execRes6L (s : State) : Result := .next (resetRegisterBit 6 .l s)

/-- `RES 6,(HL)` (R253). -/
def execRes6AtHL (s : State) : Result := .next (resetMemoryBit 6 s)

/-- `RES 6,A` (R252). -/
def execRes6A (s : State) : Result := .next (resetRegisterBit 6 .a s)

/-- `RES 7,B` (R252). -/
def execRes7B (s : State) : Result := .next (resetRegisterBit 7 .b s)

/-- `RES 7,C` (R252). -/
def execRes7C (s : State) : Result := .next (resetRegisterBit 7 .c s)

/-- `RES 7,D` (R252). -/
def execRes7D (s : State) : Result := .next (resetRegisterBit 7 .d s)

/-- `RES 7,E` (R252). -/
def execRes7E (s : State) : Result := .next (resetRegisterBit 7 .e s)

/-- `RES 7,H` (R252). -/
def execRes7H (s : State) : Result := .next (resetRegisterBit 7 .h s)

/-- `RES 7,L` (R252). -/
def execRes7L (s : State) : Result := .next (resetRegisterBit 7 .l s)

/-- `RES 7,(HL)` (R253). -/
def execRes7AtHL (s : State) : Result := .next (resetMemoryBit 7 s)

/-- `RES 7,A` (R252). -/
def execRes7A (s : State) : Result := .next (resetRegisterBit 7 .a s)

/-- `SET 0,B` (R254). -/
def execSet0B (s : State) : Result := .next (setRegisterBit 0 .b s)

/-- `SET 0,C` (R254). -/
def execSet0C (s : State) : Result := .next (setRegisterBit 0 .c s)

/-- `SET 0,D` (R254). -/
def execSet0D (s : State) : Result := .next (setRegisterBit 0 .d s)

/-- `SET 0,E` (R254). -/
def execSet0E (s : State) : Result := .next (setRegisterBit 0 .e s)

/-- `SET 0,H` (R254). -/
def execSet0H (s : State) : Result := .next (setRegisterBit 0 .h s)

/-- `SET 0,L` (R254). -/
def execSet0L (s : State) : Result := .next (setRegisterBit 0 .l s)

/-- `SET 0,(HL)` (R255). -/
def execSet0AtHL (s : State) : Result := .next (setMemoryBit 0 s)

/-- `SET 0,A` (R254). -/
def execSet0A (s : State) : Result := .next (setRegisterBit 0 .a s)

/-- `SET 1,B` (R254). -/
def execSet1B (s : State) : Result := .next (setRegisterBit 1 .b s)

/-- `SET 1,C` (R254). -/
def execSet1C (s : State) : Result := .next (setRegisterBit 1 .c s)

/-- `SET 1,D` (R254). -/
def execSet1D (s : State) : Result := .next (setRegisterBit 1 .d s)

/-- `SET 1,E` (R254). -/
def execSet1E (s : State) : Result := .next (setRegisterBit 1 .e s)

/-- `SET 1,H` (R254). -/
def execSet1H (s : State) : Result := .next (setRegisterBit 1 .h s)

/-- `SET 1,L` (R254). -/
def execSet1L (s : State) : Result := .next (setRegisterBit 1 .l s)

/-- `SET 1,(HL)` (R255). -/
def execSet1AtHL (s : State) : Result := .next (setMemoryBit 1 s)

/-- `SET 1,A` (R254). -/
def execSet1A (s : State) : Result := .next (setRegisterBit 1 .a s)

/-- `SET 2,B` (R254). -/
def execSet2B (s : State) : Result := .next (setRegisterBit 2 .b s)

/-- `SET 2,C` (R254). -/
def execSet2C (s : State) : Result := .next (setRegisterBit 2 .c s)

/-- `SET 2,D` (R254). -/
def execSet2D (s : State) : Result := .next (setRegisterBit 2 .d s)

/-- `SET 2,E` (R254). -/
def execSet2E (s : State) : Result := .next (setRegisterBit 2 .e s)

/-- `SET 2,H` (R254). -/
def execSet2H (s : State) : Result := .next (setRegisterBit 2 .h s)

/-- `SET 2,L` (R254). -/
def execSet2L (s : State) : Result := .next (setRegisterBit 2 .l s)

/-- `SET 2,(HL)` (R255). -/
def execSet2AtHL (s : State) : Result := .next (setMemoryBit 2 s)

/-- `SET 2,A` (R254). -/
def execSet2A (s : State) : Result := .next (setRegisterBit 2 .a s)

/-- `SET 3,B` (R254). -/
def execSet3B (s : State) : Result := .next (setRegisterBit 3 .b s)

/-- `SET 3,C` (R254). -/
def execSet3C (s : State) : Result := .next (setRegisterBit 3 .c s)

/-- `SET 3,D` (R254). -/
def execSet3D (s : State) : Result := .next (setRegisterBit 3 .d s)

/-- `SET 3,E` (R254). -/
def execSet3E (s : State) : Result := .next (setRegisterBit 3 .e s)

/-- `SET 3,H` (R254). -/
def execSet3H (s : State) : Result := .next (setRegisterBit 3 .h s)

/-- `SET 3,L` (R254). -/
def execSet3L (s : State) : Result := .next (setRegisterBit 3 .l s)

/-- `SET 3,(HL)` (R255). -/
def execSet3AtHL (s : State) : Result := .next (setMemoryBit 3 s)

/-- `SET 3,A` (R254). -/
def execSet3A (s : State) : Result := .next (setRegisterBit 3 .a s)

/-- `SET 4,B` (R254). -/
def execSet4B (s : State) : Result := .next (setRegisterBit 4 .b s)

/-- `SET 4,C` (R254). -/
def execSet4C (s : State) : Result := .next (setRegisterBit 4 .c s)

/-- `SET 4,D` (R254). -/
def execSet4D (s : State) : Result := .next (setRegisterBit 4 .d s)

/-- `SET 4,E` (R254). -/
def execSet4E (s : State) : Result := .next (setRegisterBit 4 .e s)

/-- `SET 4,H` (R254). -/
def execSet4H (s : State) : Result := .next (setRegisterBit 4 .h s)

/-- `SET 4,L` (R254). -/
def execSet4L (s : State) : Result := .next (setRegisterBit 4 .l s)

/-- `SET 4,(HL)` (R255). -/
def execSet4AtHL (s : State) : Result := .next (setMemoryBit 4 s)

/-- `SET 4,A` (R254). -/
def execSet4A (s : State) : Result := .next (setRegisterBit 4 .a s)

/-- `SET 5,B` (R254). -/
def execSet5B (s : State) : Result := .next (setRegisterBit 5 .b s)

/-- `SET 5,C` (R254). -/
def execSet5C (s : State) : Result := .next (setRegisterBit 5 .c s)

/-- `SET 5,D` (R254). -/
def execSet5D (s : State) : Result := .next (setRegisterBit 5 .d s)

/-- `SET 5,E` (R254). -/
def execSet5E (s : State) : Result := .next (setRegisterBit 5 .e s)

/-- `SET 5,H` (R254). -/
def execSet5H (s : State) : Result := .next (setRegisterBit 5 .h s)

/-- `SET 5,L` (R254). -/
def execSet5L (s : State) : Result := .next (setRegisterBit 5 .l s)

/-- `SET 5,(HL)` (R255). -/
def execSet5AtHL (s : State) : Result := .next (setMemoryBit 5 s)

/-- `SET 5,A` (R254). -/
def execSet5A (s : State) : Result := .next (setRegisterBit 5 .a s)

/-- `SET 6,B` (R254). -/
def execSet6B (s : State) : Result := .next (setRegisterBit 6 .b s)

/-- `SET 6,C` (R254). -/
def execSet6C (s : State) : Result := .next (setRegisterBit 6 .c s)

/-- `SET 6,D` (R254). -/
def execSet6D (s : State) : Result := .next (setRegisterBit 6 .d s)

/-- `SET 6,E` (R254). -/
def execSet6E (s : State) : Result := .next (setRegisterBit 6 .e s)

/-- `SET 6,H` (R254). -/
def execSet6H (s : State) : Result := .next (setRegisterBit 6 .h s)

/-- `SET 6,L` (R254). -/
def execSet6L (s : State) : Result := .next (setRegisterBit 6 .l s)

/-- `SET 6,(HL)` (R255). -/
def execSet6AtHL (s : State) : Result := .next (setMemoryBit 6 s)

/-- `SET 6,A` (R254). -/
def execSet6A (s : State) : Result := .next (setRegisterBit 6 .a s)

/-- `SET 7,B` (R254). -/
def execSet7B (s : State) : Result := .next (setRegisterBit 7 .b s)

/-- `SET 7,C` (R254). -/
def execSet7C (s : State) : Result := .next (setRegisterBit 7 .c s)

/-- `SET 7,D` (R254). -/
def execSet7D (s : State) : Result := .next (setRegisterBit 7 .d s)

/-- `SET 7,E` (R254). -/
def execSet7E (s : State) : Result := .next (setRegisterBit 7 .e s)

/-- `SET 7,H` (R254). -/
def execSet7H (s : State) : Result := .next (setRegisterBit 7 .h s)

/-- `SET 7,L` (R254). -/
def execSet7L (s : State) : Result := .next (setRegisterBit 7 .l s)

/-- `SET 7,(HL)` (R255). -/
def execSet7AtHL (s : State) : Result := .next (setMemoryBit 7 s)

/-- `SET 7,A` (R254). -/
def execSet7A (s : State) : Result := .next (setRegisterBit 7 .a s)

end Sys2Proof.Machine
end

