-- ==== Sys2Proof/Machine/Control.lean ====
section
/-! DEFINITION. Meanings of 46_control_flow.md R260 to R272: jumps, calls, returns, restarts. PC on entry is the address of the next
instruction (10_state.md R28); no flag is written.
The shared operations come first, then one meaning for each row of the table. An operand is what the instruction's
bytes held; PC has been advanced past them (10_state.md R28). -/

namespace Sys2Proof.Machine

/-- `PC <- t` (R261). -/
def jump (t : Word) (s : State) : State := (s.setPc t).tick 16

/-- `if cond(cc): PC <- t` (R262). -/
def jumpIf (cc : Cond) (t : Word) (s : State) : State := if s.cond cc then (s.setPc t).tick 16 else s.tick 12

/-- `PC <- HL`; "no memory is read" (R263). -/
def jumpHL (s : State) : State := (s.setPc s.hl).tick 4

/-- `PC <- (PC + sext_16(e)) mod 65536` (R264). -/
def jumpRelative (e : Byte) (s : State) : State := (s.setPc (s.pc + signExtend16 e)).tick 12

/-- `if cond(cc): PC <- (PC + sext_16(e)) mod 65536` (R265). -/
def jumpRelativeIf (cc : Cond) (e : Byte) (s : State) : State :=
  if s.cond cc then (s.setPc (s.pc + signExtend16 e)).tick 12 else s.tick 8

/-- `push16(PC); PC <- t` (R266). -/
def call (t : Word) (s : State) : State := ((s.push16 s.pc).setPc t).tick 24

/-- `if cond(cc): push16(PC); PC <- t` (R267). -/
def callIf (cc : Cond) (t : Word) (s : State) : State :=
  if s.cond cc then ((s.push16 s.pc).setPc t).tick 24 else s.tick 12

/-- `PC <- pop16()` (R268). -/
def ret (s : State) : State := (s.popSp.setPc s.popValue).tick 16

/-- `if cond(cc): PC <- pop16()` (R269). -/
def retIf (cc : Cond) (s : State) : State :=
  if s.cond cc then (s.popSp.setPc s.popValue).tick 20 else s.tick 8

/-- `PC <- pop16(); IME <- 1` (R270). -/
def reti (s : State) : State := s.returnFromInterrupt.tick 16

/-- `push16(PC); PC <- y * 8` (R271). -/
def restart (t : Word) (s : State) : State := ((s.push16 s.pc).setPc t).tick 16

/-- `JR e8` (R264). -/
def execJrE8 (e : Byte) (s : State) : Result := .next (jumpRelative e s)

/-- `JR NZ,e8` (R265). -/
def execJrNZE8 (e : Byte) (s : State) : Result := .next (jumpRelativeIf .nz e s)

/-- `JR Z,e8` (R265). -/
def execJrZE8 (e : Byte) (s : State) : Result := .next (jumpRelativeIf .z e s)

/-- `JR NC,e8` (R265). -/
def execJrNCE8 (e : Byte) (s : State) : Result := .next (jumpRelativeIf .nc e s)

/-- `JR C,e8` (R265). -/
def execJrCE8 (e : Byte) (s : State) : Result := .next (jumpRelativeIf .c e s)

/-- `RET NZ` (R269). -/
def execRetNZ (s : State) : Result := .next (retIf .nz s)

/-- `JP NZ,a16` (R262). -/
def execJpNZA16 (w : Word) (s : State) : Result := .next (jumpIf .nz w s)

/-- `JP a16` (R261). -/
def execJpA16 (w : Word) (s : State) : Result := .next (jump w s)

/-- `CALL NZ,a16` (R267). -/
def execCallNZA16 (w : Word) (s : State) : Result := .next (callIf .nz w s)

/-- `RST 00H` (R271). -/
def execRst00 (s : State) : Result := .next (restart 0x0000#16 s)

/-- `RET Z` (R269). -/
def execRetZ (s : State) : Result := .next (retIf .z s)

/-- `RET` (R268). -/
def execRet (s : State) : Result := .next (ret s)

/-- `JP Z,a16` (R262). -/
def execJpZA16 (w : Word) (s : State) : Result := .next (jumpIf .z w s)

/-- `CALL Z,a16` (R267). -/
def execCallZA16 (w : Word) (s : State) : Result := .next (callIf .z w s)

/-- `CALL a16` (R266). -/
def execCallA16 (w : Word) (s : State) : Result := .next (call w s)

/-- `RST 08H` (R271). -/
def execRst08 (s : State) : Result := .next (restart 0x0008#16 s)

/-- `RET NC` (R269). -/
def execRetNC (s : State) : Result := .next (retIf .nc s)

/-- `JP NC,a16` (R262). -/
def execJpNCA16 (w : Word) (s : State) : Result := .next (jumpIf .nc w s)

/-- `CALL NC,a16` (R267). -/
def execCallNCA16 (w : Word) (s : State) : Result := .next (callIf .nc w s)

/-- `RST 10H` (R271). -/
def execRst10 (s : State) : Result := .next (restart 0x0010#16 s)

/-- `RET C` (R269). -/
def execRetC (s : State) : Result := .next (retIf .c s)

/-- `RETI` (R270). -/
def execReti (s : State) : Result := .next (reti s)

/-- `JP C,a16` (R262). -/
def execJpCA16 (w : Word) (s : State) : Result := .next (jumpIf .c w s)

/-- `CALL C,a16` (R267). -/
def execCallCA16 (w : Word) (s : State) : Result := .next (callIf .c w s)

/-- `RST 18H` (R271). -/
def execRst18 (s : State) : Result := .next (restart 0x0018#16 s)

/-- `RST 20H` (R271). -/
def execRst20 (s : State) : Result := .next (restart 0x0020#16 s)

/-- `JP (HL)` (R263). -/
def execJpAtHL (s : State) : Result := .next (jumpHL s)

/-- `RST 28H` (R271). -/
def execRst28 (s : State) : Result := .next (restart 0x0028#16 s)

/-- `RST 30H` (R271). -/
def execRst30 (s : State) : Result := .next (restart 0x0030#16 s)

/-- `RST 38H` (R271). -/
def execRst38 (s : State) : Result := .next (restart 0x0038#16 s)

end Sys2Proof.Machine
end

