-- ==== Sys2Proof/Machine/Rotates.lean ====
section
/-! DEFINITION. Meanings of 44_rotates_shifts.md R220 to R247: rotates and shifts.
The shared operations come first, then one meaning for each row of the table. An operand is what the instruction's
bytes held; PC has been advanced past them (10_state.md R28). -/

namespace Sys2Proof.Machine

/-- The accumulator forms (R220 to R223). -/
def rotateAcc (o : ShiftOp) (s : State) : State :=
  let p := rotateA o s.a s.fC
  ((s.setReg8 .a p.1).setFlags p.2).tick 4

/-- The register forms of the extended page (R232, R234, ..., R246). -/
def shiftRegister (o : ShiftOp) (r : Reg8) (s : State) : State :=
  let p := shift8 o (s.getReg8 r) s.fC
  ((s.setReg8 r p.1).setFlags p.2).tick 8

/-- The `(HL)` forms: "one read, one write", flags from the value read (R233, R235, ..., R247). -/
def shiftMemory (o : ShiftOp) (s : State) : State :=
  let p := shift8 o (s.read s.hl) s.fC
  ((s.write s.hl p.1).setFlags p.2).tick 16

/-- `RLCA` (R220). -/
def execRlca (s : State) : Result := .next (rotateAcc .rlc s)

/-- `RRCA` (R221). -/
def execRrca (s : State) : Result := .next (rotateAcc .rrc s)

/-- `RLA` (R222). -/
def execRla (s : State) : Result := .next (rotateAcc .rl s)

/-- `RRA` (R223). -/
def execRra (s : State) : Result := .next (rotateAcc .rr s)

/-- `RLC B` (R232). -/
def execRlcB (s : State) : Result := .next (shiftRegister .rlc .b s)

/-- `RLC C` (R232). -/
def execRlcC (s : State) : Result := .next (shiftRegister .rlc .c s)

/-- `RLC D` (R232). -/
def execRlcD (s : State) : Result := .next (shiftRegister .rlc .d s)

/-- `RLC E` (R232). -/
def execRlcE (s : State) : Result := .next (shiftRegister .rlc .e s)

/-- `RLC H` (R232). -/
def execRlcH (s : State) : Result := .next (shiftRegister .rlc .h s)

/-- `RLC L` (R232). -/
def execRlcL (s : State) : Result := .next (shiftRegister .rlc .l s)

/-- `RLC (HL)` (R233). -/
def execRlcAtHL (s : State) : Result := .next (shiftMemory .rlc s)

/-- `RLC A` (R232). -/
def execRlcA (s : State) : Result := .next (shiftRegister .rlc .a s)

/-- `RRC B` (R234). -/
def execRrcB (s : State) : Result := .next (shiftRegister .rrc .b s)

/-- `RRC C` (R234). -/
def execRrcC (s : State) : Result := .next (shiftRegister .rrc .c s)

/-- `RRC D` (R234). -/
def execRrcD (s : State) : Result := .next (shiftRegister .rrc .d s)

/-- `RRC E` (R234). -/
def execRrcE (s : State) : Result := .next (shiftRegister .rrc .e s)

/-- `RRC H` (R234). -/
def execRrcH (s : State) : Result := .next (shiftRegister .rrc .h s)

/-- `RRC L` (R234). -/
def execRrcL (s : State) : Result := .next (shiftRegister .rrc .l s)

/-- `RRC (HL)` (R235). -/
def execRrcAtHL (s : State) : Result := .next (shiftMemory .rrc s)

/-- `RRC A` (R234). -/
def execRrcA (s : State) : Result := .next (shiftRegister .rrc .a s)

/-- `RL B` (R236). -/
def execRlB (s : State) : Result := .next (shiftRegister .rl .b s)

/-- `RL C` (R236). -/
def execRlC (s : State) : Result := .next (shiftRegister .rl .c s)

/-- `RL D` (R236). -/
def execRlD (s : State) : Result := .next (shiftRegister .rl .d s)

/-- `RL E` (R236). -/
def execRlE (s : State) : Result := .next (shiftRegister .rl .e s)

/-- `RL H` (R236). -/
def execRlH (s : State) : Result := .next (shiftRegister .rl .h s)

/-- `RL L` (R236). -/
def execRlL (s : State) : Result := .next (shiftRegister .rl .l s)

/-- `RL (HL)` (R237). -/
def execRlAtHL (s : State) : Result := .next (shiftMemory .rl s)

/-- `RL A` (R236). -/
def execRlA (s : State) : Result := .next (shiftRegister .rl .a s)

/-- `RR B` (R238). -/
def execRrB (s : State) : Result := .next (shiftRegister .rr .b s)

/-- `RR C` (R238). -/
def execRrC (s : State) : Result := .next (shiftRegister .rr .c s)

/-- `RR D` (R238). -/
def execRrD (s : State) : Result := .next (shiftRegister .rr .d s)

/-- `RR E` (R238). -/
def execRrE (s : State) : Result := .next (shiftRegister .rr .e s)

/-- `RR H` (R238). -/
def execRrH (s : State) : Result := .next (shiftRegister .rr .h s)

/-- `RR L` (R238). -/
def execRrL (s : State) : Result := .next (shiftRegister .rr .l s)

/-- `RR (HL)` (R239). -/
def execRrAtHL (s : State) : Result := .next (shiftMemory .rr s)

/-- `RR A` (R238). -/
def execRrA (s : State) : Result := .next (shiftRegister .rr .a s)

/-- `SLA B` (R240). -/
def execSlaB (s : State) : Result := .next (shiftRegister .sla .b s)

/-- `SLA C` (R240). -/
def execSlaC (s : State) : Result := .next (shiftRegister .sla .c s)

/-- `SLA D` (R240). -/
def execSlaD (s : State) : Result := .next (shiftRegister .sla .d s)

/-- `SLA E` (R240). -/
def execSlaE (s : State) : Result := .next (shiftRegister .sla .e s)

/-- `SLA H` (R240). -/
def execSlaH (s : State) : Result := .next (shiftRegister .sla .h s)

/-- `SLA L` (R240). -/
def execSlaL (s : State) : Result := .next (shiftRegister .sla .l s)

/-- `SLA (HL)` (R241). -/
def execSlaAtHL (s : State) : Result := .next (shiftMemory .sla s)

/-- `SLA A` (R240). -/
def execSlaA (s : State) : Result := .next (shiftRegister .sla .a s)

/-- `SRA B` (R242). -/
def execSraB (s : State) : Result := .next (shiftRegister .sra .b s)

/-- `SRA C` (R242). -/
def execSraC (s : State) : Result := .next (shiftRegister .sra .c s)

/-- `SRA D` (R242). -/
def execSraD (s : State) : Result := .next (shiftRegister .sra .d s)

/-- `SRA E` (R242). -/
def execSraE (s : State) : Result := .next (shiftRegister .sra .e s)

/-- `SRA H` (R242). -/
def execSraH (s : State) : Result := .next (shiftRegister .sra .h s)

/-- `SRA L` (R242). -/
def execSraL (s : State) : Result := .next (shiftRegister .sra .l s)

/-- `SRA (HL)` (R243). -/
def execSraAtHL (s : State) : Result := .next (shiftMemory .sra s)

/-- `SRA A` (R242). -/
def execSraA (s : State) : Result := .next (shiftRegister .sra .a s)

/-- `SWAP B` (R244). -/
def execSwapB (s : State) : Result := .next (shiftRegister .swap .b s)

/-- `SWAP C` (R244). -/
def execSwapC (s : State) : Result := .next (shiftRegister .swap .c s)

/-- `SWAP D` (R244). -/
def execSwapD (s : State) : Result := .next (shiftRegister .swap .d s)

/-- `SWAP E` (R244). -/
def execSwapE (s : State) : Result := .next (shiftRegister .swap .e s)

/-- `SWAP H` (R244). -/
def execSwapH (s : State) : Result := .next (shiftRegister .swap .h s)

/-- `SWAP L` (R244). -/
def execSwapL (s : State) : Result := .next (shiftRegister .swap .l s)

/-- `SWAP (HL)` (R245). -/
def execSwapAtHL (s : State) : Result := .next (shiftMemory .swap s)

/-- `SWAP A` (R244). -/
def execSwapA (s : State) : Result := .next (shiftRegister .swap .a s)

/-- `SRL B` (R246). -/
def execSrlB (s : State) : Result := .next (shiftRegister .srl .b s)

/-- `SRL C` (R246). -/
def execSrlC (s : State) : Result := .next (shiftRegister .srl .c s)

/-- `SRL D` (R246). -/
def execSrlD (s : State) : Result := .next (shiftRegister .srl .d s)

/-- `SRL E` (R246). -/
def execSrlE (s : State) : Result := .next (shiftRegister .srl .e s)

/-- `SRL H` (R246). -/
def execSrlH (s : State) : Result := .next (shiftRegister .srl .h s)

/-- `SRL L` (R246). -/
def execSrlL (s : State) : Result := .next (shiftRegister .srl .l s)

/-- `SRL (HL)` (R247). -/
def execSrlAtHL (s : State) : Result := .next (shiftMemory .srl s)

/-- `SRL A` (R246). -/
def execSrlA (s : State) : Result := .next (shiftRegister .srl .a s)

end Sys2Proof.Machine
end

