-- ==== Sys2Proof/Machine/Extended.lean ====
section
/-! DEFINITION. Meanings of 30_encoding.md R121, R122: the prefix byte 0xCB and the extended page as a whole.
The shared operations come first, then one meaning for each row of the table. An operand is what the instruction's
bytes held; PC has been advanced past them (10_state.md R28). -/

namespace Sys2Proof.Machine

/-- The extended-page instruction `op2` (R122), by its fields. -/
def runExtended (op2 : Byte) (s : State) : State :=
  match fieldX op2, loc8 (fieldZ op2) with
  | 0, .reg r => shiftRegister (shiftOpOf (fieldY op2)) r s
  | 0, .atHL => shiftMemory (shiftOpOf (fieldY op2)) s
  | 1, .reg r => testRegisterBit (fieldY op2) r s
  | 1, .atHL => testMemoryBit (fieldY op2) s
  | 2, .reg r => resetRegisterBit (fieldY op2) r s
  | 2, .atHL => resetMemoryBit (fieldY op2) s
  | 3, .reg r => setRegisterBit (fieldY op2) r s
  | 3, .atHL => setMemoryBit (fieldY op2) s

/-- What the prefix byte does (R121): "the step that fetches 0xCB fetches one more byte `op2` at once and executes
the extended-page instruction `op2` in the same step". -/
def prefixCB (s : State) : State := runExtended (s.read s.pc) (s.setPc (s.pc + 1#16)).freshReads

/-- `PREFIX CB` (R121). -/
def execPrefixCB (s : State) : Result := .next (prefixCB s)

end Sys2Proof.Machine
end

