-- ==== Sys2Proof/Machine/IncDec.lean ====
section
/-! DEFINITION. Meanings of 41_incdec.md R170 to R177: INC and DEC.
The shared operations come first, then one meaning for each row of the table. An operand is what the instruction's
bytes held; PC has been advanced past them (10_state.md R28). -/

namespace Sys2Proof.Machine

/-- `r8[y] <- inc8(r8[y])` (R172). -/
def incRegister (r : Reg8) (s : State) : State :=
  let p := inc8 (s.getReg8 r) s.flags
  ((s.setReg8 r p.1).setFlags p.2).tick 4

/-- `r8[y] <- dec8(r8[y])` (R174). -/
def decRegister (r : Reg8) (s : State) : State :=
  let p := dec8 (s.getReg8 r) s.flags
  ((s.setReg8 r p.1).setFlags p.2).tick 4

/-- `v <- MemRead(HL, 1); MemWrite(HL, 1, inc8(v))`: the flags come from the value read (R173). -/
def incMemory (s : State) : State :=
  let p := inc8 (s.read s.hl) s.flags
  ((s.write s.hl p.1).setFlags p.2).tick 12

/-- `v <- MemRead(HL, 1); MemWrite(HL, 1, dec8(v))` (R175). -/
def decMemory (s : State) : State :=
  let p := dec8 (s.read s.hl) s.flags
  ((s.write s.hl p.1).setFlags p.2).tick 12

/-- `r16[p] <- (r16[p] + by) mod 65536`, no flag (R176, R177). -/
def incPairBy (by' : Word) (p : Pair) (s : State) : State := (s.setPair p (s.getPair p + by')).tick 8

/-- `INC BC` (R176). -/
def execIncBC (s : State) : Result := .next (incPairBy 1#16 .bc s)

/-- `INC B` (R172). -/
def execIncB (s : State) : Result := .next (incRegister .b s)

/-- `DEC B` (R174). -/
def execDecB (s : State) : Result := .next (decRegister .b s)

/-- `DEC BC` (R177). -/
def execDecBC (s : State) : Result := .next (incPairBy (-1#16) .bc s)

/-- `INC C` (R172). -/
def execIncC (s : State) : Result := .next (incRegister .c s)

/-- `DEC C` (R174). -/
def execDecC (s : State) : Result := .next (decRegister .c s)

/-- `INC DE` (R176). -/
def execIncDE (s : State) : Result := .next (incPairBy 1#16 .de s)

/-- `INC D` (R172). -/
def execIncD (s : State) : Result := .next (incRegister .d s)

/-- `DEC D` (R174). -/
def execDecD (s : State) : Result := .next (decRegister .d s)

/-- `DEC DE` (R177). -/
def execDecDE (s : State) : Result := .next (incPairBy (-1#16) .de s)

/-- `INC E` (R172). -/
def execIncE (s : State) : Result := .next (incRegister .e s)

/-- `DEC E` (R174). -/
def execDecE (s : State) : Result := .next (decRegister .e s)

/-- `INC HL` (R176). -/
def execIncHL (s : State) : Result := .next (incPairBy 1#16 .hl s)

/-- `INC H` (R172). -/
def execIncH (s : State) : Result := .next (incRegister .h s)

/-- `DEC H` (R174). -/
def execDecH (s : State) : Result := .next (decRegister .h s)

/-- `DEC HL` (R177). -/
def execDecHL (s : State) : Result := .next (incPairBy (-1#16) .hl s)

/-- `INC L` (R172). -/
def execIncL (s : State) : Result := .next (incRegister .l s)

/-- `DEC L` (R174). -/
def execDecL (s : State) : Result := .next (decRegister .l s)

/-- `INC SP` (R176). -/
def execIncSP (s : State) : Result := .next (incPairBy 1#16 .sp s)

/-- `INC (HL)` (R173). -/
def execIncAtHL (s : State) : Result := .next (incMemory s)

/-- `DEC (HL)` (R175). -/
def execDecAtHL (s : State) : Result := .next (decMemory s)

/-- `DEC SP` (R177). -/
def execDecSP (s : State) : Result := .next (incPairBy (-1#16) .sp s)

/-- `INC A` (R172). -/
def execIncA (s : State) : Result := .next (incRegister .a s)

/-- `DEC A` (R174). -/
def execDecA (s : State) : Result := .next (decRegister .a s)

end Sys2Proof.Machine
end

