-- ==== Sys2Proof/Machine/Loads.lean ====
section
/-! DEFINITION. Meanings of 40_loads.md R140 to R162: 8-bit and 16-bit loads. "No instruction of this file writes any flag" (R162).
The shared operations come first, then one meaning for each row of the table. An operand is what the instruction's
bytes held; PC has been advanced past them (10_state.md R28). -/

namespace Sys2Proof.Machine

/-- `r8[y] <- r8[z]` (R140). -/
def loadRegReg (dst r : Reg8) (s : State) : State := (s.setReg8 dst (s.getReg8 r)).tick 4

/-- `r8[y] <- v` (R141). -/
def loadRegImm (dst : Reg8) (n : Byte) (s : State) : State := (s.setReg8 dst n).tick 8

/-- `v <- MemRead(HL, 1); r8[y] <- v` (R142): memory is read at the old HL. -/
def loadRegAtHL (dst : Reg8) (s : State) : State := (s.setReg8 dst (s.read s.hl)).tick 8

/-- `MemWrite(HL, 1, r8[z])` (R143). -/
def storeRegAtHL (r : Reg8) (s : State) : State := (s.write s.hl (s.getReg8 r)).tick 8

/-- `MemWrite(HL, 1, v)` (R144). -/
def storeImmAtHL (n : Byte) (s : State) : State := (s.write s.hl n).tick 12

/-- The I/O page address `0xFF00 + n` (30_encoding.md R120). -/
def ioAddress (n : Byte) : Word := 0xFF00#16 + n.setWidth 16

/-- `A <- MemRead(addr, 1)`, in `k` cycles (R145, R146, R149, R151, R153). -/
def loadA (addr : Word) (k : Nat) (s : State) : State := (s.setReg8 .a (s.read addr)).tick k

/-- `MemWrite(addr, 1, A)`, in `k` cycles (R147, R148, R150, R152, R154). -/
def storeA (addr : Word) (k : Nat) (s : State) : State := (s.write addr s.a).tick k

/-- `HL <- (HL + by) mod 65536` (R155 to R158): "the increment of HL sets no flag". -/
def moveHL (by' : Word) (s : State) : State := s.setPair .hl (s.hl + by')

/-- `r16[p] <- v` (R159). -/
def loadPairImm (p : Pair) (w : Word) (s : State) : State := (s.setPair p w).tick 12

/-- `MemWrite(a, 2, SP)` (R160). -/
def storeSP (w : Word) (s : State) : State := (s.write16 w s.sp).tick 20

/-- `SP <- HL` (R161). -/
def loadSPHL (s : State) : State := (s.setPair .sp s.hl).tick 8

/-- `LD BC,d16` (R159). -/
def execLdBCD16 (w : Word) (s : State) : Result := .next (loadPairImm .bc w s)

/-- `LD (BC),A` (R147). -/
def execLdAtBCA (s : State) : Result := .next (storeA s.bc 8 s)

/-- `LD B,d8` (R141). -/
def execLdBD8 (n : Byte) (s : State) : Result := .next (loadRegImm .b n s)

/-- `LD (a16),SP` (R160). -/
def execLdAtA16SP (w : Word) (s : State) : Result := .next (storeSP w s)

/-- `LD A,(BC)` (R145). -/
def execLdAAtBC (s : State) : Result := .next (loadA s.bc 8 s)

/-- `LD C,d8` (R141). -/
def execLdCD8 (n : Byte) (s : State) : Result := .next (loadRegImm .c n s)

/-- `LD DE,d16` (R159). -/
def execLdDED16 (w : Word) (s : State) : Result := .next (loadPairImm .de w s)

/-- `LD (DE),A` (R148). -/
def execLdAtDEA (s : State) : Result := .next (storeA s.de 8 s)

/-- `LD D,d8` (R141). -/
def execLdDD8 (n : Byte) (s : State) : Result := .next (loadRegImm .d n s)

/-- `LD A,(DE)` (R146). -/
def execLdAAtDE (s : State) : Result := .next (loadA s.de 8 s)

/-- `LD E,d8` (R141). -/
def execLdED8 (n : Byte) (s : State) : Result := .next (loadRegImm .e n s)

/-- `LD HL,d16` (R159). -/
def execLdHLD16 (w : Word) (s : State) : Result := .next (loadPairImm .hl w s)

/-- `LD (HL+),A` (R155). -/
def execLdAtHLIncA (s : State) : Result := .next (moveHL 1#16 (storeA s.hl 8 s))

/-- `LD H,d8` (R141). -/
def execLdHD8 (n : Byte) (s : State) : Result := .next (loadRegImm .h n s)

/-- `LD A,(HL+)` (R157). -/
def execLdAAtHLInc (s : State) : Result := .next (moveHL 1#16 (loadA s.hl 8 s))

/-- `LD L,d8` (R141). -/
def execLdLD8 (n : Byte) (s : State) : Result := .next (loadRegImm .l n s)

/-- `LD SP,d16` (R159). -/
def execLdSPD16 (w : Word) (s : State) : Result := .next (loadPairImm .sp w s)

/-- `LD (HL-),A` (R156). -/
def execLdAtHLDecA (s : State) : Result := .next (moveHL (-1#16) (storeA s.hl 8 s))

/-- `LD (HL),d8` (R144). -/
def execLdAtHLD8 (n : Byte) (s : State) : Result := .next (storeImmAtHL n s)

/-- `LD A,(HL-)` (R158). -/
def execLdAAtHLDec (s : State) : Result := .next (moveHL (-1#16) (loadA s.hl 8 s))

/-- `LD A,d8` (R141). -/
def execLdAD8 (n : Byte) (s : State) : Result := .next (loadRegImm .a n s)

/-- `LD B,B` (R140). -/
def execLdBB (s : State) : Result := .next (loadRegReg .b .b s)

/-- `LD B,C` (R140). -/
def execLdBC (s : State) : Result := .next (loadRegReg .b .c s)

/-- `LD B,D` (R140). -/
def execLdBD (s : State) : Result := .next (loadRegReg .b .d s)

/-- `LD B,E` (R140). -/
def execLdBE (s : State) : Result := .next (loadRegReg .b .e s)

/-- `LD B,H` (R140). -/
def execLdBH (s : State) : Result := .next (loadRegReg .b .h s)

/-- `LD B,L` (R140). -/
def execLdBL (s : State) : Result := .next (loadRegReg .b .l s)

/-- `LD B,(HL)` (R142). -/
def execLdBAtHL (s : State) : Result := .next (loadRegAtHL .b s)

/-- `LD B,A` (R140). -/
def execLdBA (s : State) : Result := .next (loadRegReg .b .a s)

/-- `LD C,B` (R140). -/
def execLdCB (s : State) : Result := .next (loadRegReg .c .b s)

/-- `LD C,C` (R140). -/
def execLdCC (s : State) : Result := .next (loadRegReg .c .c s)

/-- `LD C,D` (R140). -/
def execLdCD (s : State) : Result := .next (loadRegReg .c .d s)

/-- `LD C,E` (R140). -/
def execLdCE (s : State) : Result := .next (loadRegReg .c .e s)

/-- `LD C,H` (R140). -/
def execLdCH (s : State) : Result := .next (loadRegReg .c .h s)

/-- `LD C,L` (R140). -/
def execLdCL (s : State) : Result := .next (loadRegReg .c .l s)

/-- `LD C,(HL)` (R142). -/
def execLdCAtHL (s : State) : Result := .next (loadRegAtHL .c s)

/-- `LD C,A` (R140). -/
def execLdCA (s : State) : Result := .next (loadRegReg .c .a s)

/-- `LD D,B` (R140). -/
def execLdDB (s : State) : Result := .next (loadRegReg .d .b s)

/-- `LD D,C` (R140). -/
def execLdDC (s : State) : Result := .next (loadRegReg .d .c s)

/-- `LD D,D` (R140). -/
def execLdDD (s : State) : Result := .next (loadRegReg .d .d s)

/-- `LD D,E` (R140). -/
def execLdDE (s : State) : Result := .next (loadRegReg .d .e s)

/-- `LD D,H` (R140). -/
def execLdDH (s : State) : Result := .next (loadRegReg .d .h s)

/-- `LD D,L` (R140). -/
def execLdDL (s : State) : Result := .next (loadRegReg .d .l s)

/-- `LD D,(HL)` (R142). -/
def execLdDAtHL (s : State) : Result := .next (loadRegAtHL .d s)

/-- `LD D,A` (R140). -/
def execLdDA (s : State) : Result := .next (loadRegReg .d .a s)

/-- `LD E,B` (R140). -/
def execLdEB (s : State) : Result := .next (loadRegReg .e .b s)

/-- `LD E,C` (R140). -/
def execLdEC (s : State) : Result := .next (loadRegReg .e .c s)

/-- `LD E,D` (R140). -/
def execLdED (s : State) : Result := .next (loadRegReg .e .d s)

/-- `LD E,E` (R140). -/
def execLdEE (s : State) : Result := .next (loadRegReg .e .e s)

/-- `LD E,H` (R140). -/
def execLdEH (s : State) : Result := .next (loadRegReg .e .h s)

/-- `LD E,L` (R140). -/
def execLdEL (s : State) : Result := .next (loadRegReg .e .l s)

/-- `LD E,(HL)` (R142). -/
def execLdEAtHL (s : State) : Result := .next (loadRegAtHL .e s)

/-- `LD E,A` (R140). -/
def execLdEA (s : State) : Result := .next (loadRegReg .e .a s)

/-- `LD H,B` (R140). -/
def execLdHB (s : State) : Result := .next (loadRegReg .h .b s)

/-- `LD H,C` (R140). -/
def execLdHC (s : State) : Result := .next (loadRegReg .h .c s)

/-- `LD H,D` (R140). -/
def execLdHD (s : State) : Result := .next (loadRegReg .h .d s)

/-- `LD H,E` (R140). -/
def execLdHE (s : State) : Result := .next (loadRegReg .h .e s)

/-- `LD H,H` (R140). -/
def execLdHH (s : State) : Result := .next (loadRegReg .h .h s)

/-- `LD H,L` (R140). -/
def execLdHL (s : State) : Result := .next (loadRegReg .h .l s)

/-- `LD H,(HL)` (R142). -/
def execLdHAtHL (s : State) : Result := .next (loadRegAtHL .h s)

/-- `LD H,A` (R140). -/
def execLdHA (s : State) : Result := .next (loadRegReg .h .a s)

/-- `LD L,B` (R140). -/
def execLdLB (s : State) : Result := .next (loadRegReg .l .b s)

/-- `LD L,C` (R140). -/
def execLdLC (s : State) : Result := .next (loadRegReg .l .c s)

/-- `LD L,D` (R140). -/
def execLdLD (s : State) : Result := .next (loadRegReg .l .d s)

/-- `LD L,E` (R140). -/
def execLdLE (s : State) : Result := .next (loadRegReg .l .e s)

/-- `LD L,H` (R140). -/
def execLdLH (s : State) : Result := .next (loadRegReg .l .h s)

/-- `LD L,L` (R140). -/
def execLdLL (s : State) : Result := .next (loadRegReg .l .l s)

/-- `LD L,(HL)` (R142). -/
def execLdLAtHL (s : State) : Result := .next (loadRegAtHL .l s)

/-- `LD L,A` (R140). -/
def execLdLA (s : State) : Result := .next (loadRegReg .l .a s)

/-- `LD (HL),B` (R143). -/
def execLdAtHLB (s : State) : Result := .next (storeRegAtHL .b s)

/-- `LD (HL),C` (R143). -/
def execLdAtHLC (s : State) : Result := .next (storeRegAtHL .c s)

/-- `LD (HL),D` (R143). -/
def execLdAtHLD (s : State) : Result := .next (storeRegAtHL .d s)

/-- `LD (HL),E` (R143). -/
def execLdAtHLE (s : State) : Result := .next (storeRegAtHL .e s)

/-- `LD (HL),H` (R143). -/
def execLdAtHLH (s : State) : Result := .next (storeRegAtHL .h s)

/-- `LD (HL),L` (R143). -/
def execLdAtHLL (s : State) : Result := .next (storeRegAtHL .l s)

/-- `LD (HL),A` (R143). -/
def execLdAtHLA (s : State) : Result := .next (storeRegAtHL .a s)

/-- `LD A,B` (R140). -/
def execLdAB (s : State) : Result := .next (loadRegReg .a .b s)

/-- `LD A,C` (R140). -/
def execLdAC (s : State) : Result := .next (loadRegReg .a .c s)

/-- `LD A,D` (R140). -/
def execLdAD (s : State) : Result := .next (loadRegReg .a .d s)

/-- `LD A,E` (R140). -/
def execLdAE (s : State) : Result := .next (loadRegReg .a .e s)

/-- `LD A,H` (R140). -/
def execLdAH (s : State) : Result := .next (loadRegReg .a .h s)

/-- `LD A,L` (R140). -/
def execLdAL (s : State) : Result := .next (loadRegReg .a .l s)

/-- `LD A,(HL)` (R142). -/
def execLdAAtHL (s : State) : Result := .next (loadRegAtHL .a s)

/-- `LD A,A` (R140). -/
def execLdAA (s : State) : Result := .next (loadRegReg .a .a s)

/-- `LDH (a8),A` (R152). -/
def execLdhAtA8A (n : Byte) (s : State) : Result := .next (storeA (ioAddress n) 12 s)

/-- `LD (C),A` (R154). -/
def execLdAtCA (s : State) : Result := .next (storeA (ioAddress s.c) 8 s)

/-- `LD (a16),A` (R150). -/
def execLdAtA16A (w : Word) (s : State) : Result := .next (storeA w 16 s)

/-- `LDH A,(a8)` (R151). -/
def execLdhAAtA8 (n : Byte) (s : State) : Result := .next (loadA (ioAddress n) 12 s)

/-- `LD A,(C)` (R153). -/
def execLdAAtC (s : State) : Result := .next (loadA (ioAddress s.c) 8 s)

/-- `LD SP,HL` (R161). -/
def execLdSPHL (s : State) : Result := .next (loadSPHL s)

/-- `LD A,(a16)` (R149). -/
def execLdAAtA16 (w : Word) (s : State) : Result := .next (loadA w 16 s)

end Sys2Proof.Machine
end

