-- ==== Sys2Proof/Machine/Misc.lean ====
section
/-! DEFINITION. Meanings of 48_daa_misc.md R290 to R298: DAA, CPL, SCF, CCF, DI, EI, HALT, STOP, NOP.
The shared operations come first, then one meaning for each row of the table. An operand is what the instruction's
bytes held; PC has been advanced past them (10_state.md R28). -/

namespace Sys2Proof.Machine

/-- `DAA` (R290). -/
def decimalAdjust (s : State) : State :=
  let p := daa s.a s.flags
  ((s.setReg8 .a p.1).setFlags p.2).tick 4

/-- `A <- A ^ 0xFF; fN <- 1; fH <- 1` (R291). -/
def complementA (s : State) : State :=
  ((s.setReg8 .a (s.a ^^^ 0xFF#8)).setFlags { s.flags with n := true, h := true }).tick 4

/-- `fC <- 1; fN <- 0; fH <- 0` (R292). -/
def setCarry (s : State) : State := (s.setFlags { s.flags with c := true, n := false, h := false }).tick 4

/-- `fC <- 1 - fC; fN <- 0; fH <- 0` (R293). -/
def complementCarry (s : State) : State :=
  (s.setFlags { s.flags with c := !s.fC, n := false, h := false }).tick 4

/-- `IME <- 0`, at once (R294). -/
def disableInterrupts (s : State) : State := { s with ime := false }.tick 4

/-- `IME <- 1`, at once (R295). -/
def enableInterrupts (s : State) : State := { s with ime := true }.tick 4

/-- `if IME = 0: raise HaltWithIMEClear(start, 0x76) else: halted <- 1` (R296); `start` is PC - 1. -/
def halt (s : State) : State :=
  if s.ime then { s with halted := true }.tick 4 else s.raiseFault .haltWithIMEClear (s.pc - 1#16) 0x76#8

/-- `stopped <- 1` (R297). -/
def stop (s : State) : State := { s with stopped := true }.tick 4

/-- Nothing (R298); "The reported cycle count is 0". -/
def nop (s : State) : State := s.tick 0

/-- `NOP` (R298). -/
def execNop (s : State) : Result := .next (nop s)

/-- `STOP` (R297). -/
def execStop (s : State) : Result := .next (stop s)

/-- `DAA` (R290). -/
def execDaa (s : State) : Result := .next (decimalAdjust s)

/-- `CPL` (R291). -/
def execCpl (s : State) : Result := .next (complementA s)

/-- `SCF` (R292). -/
def execScf (s : State) : Result := .next (setCarry s)

/-- `CCF` (R293). -/
def execCcf (s : State) : Result := .next (complementCarry s)

/-- `HALT` (R296). -/
def execHalt (s : State) : Result := .next (halt s)

/-- `DI` (R294). -/
def execDi (s : State) : Result := .next (disableInterrupts s)

/-- `EI` (R295). -/
def execEi (s : State) : Result := .next (enableInterrupts s)

end Sys2Proof.Machine
end

