-- ==== Sys2Proof/Machine/Stack.lean ====
section
/-! DEFINITION. Meanings of 47_stack.md R282 to R285: PUSH and POP.
The shared operations come first, then one meaning for each row of the table. An operand is what the instruction's
bytes held; PC has been advanced past them (10_state.md R28). -/

namespace Sys2Proof.Machine

/-- `push16(r16s[p])` (R282, R283): "The register keeps its value". -/
def pushPair (p : StackPair) (s : State) : State := (s.push16 (s.getStackPair p)).tick 16

/-- `r16s[p] <- pop16()` (R284, R285). -/
def popPair (p : StackPair) (s : State) : State := (s.popSp.setStackPair p s.popValue).tick 12

/-- `POP BC` (R284). -/
def execPopBC (s : State) : Result := .next (popPair .bc s)

/-- `PUSH BC` (R282). -/
def execPushBC (s : State) : Result := .next (pushPair .bc s)

/-- `POP DE` (R284). -/
def execPopDE (s : State) : Result := .next (popPair .de s)

/-- `PUSH DE` (R282). -/
def execPushDE (s : State) : Result := .next (pushPair .de s)

/-- `POP HL` (R284). -/
def execPopHL (s : State) : Result := .next (popPair .hl s)

/-- `PUSH HL` (R282). -/
def execPushHL (s : State) : Result := .next (pushPair .hl s)

/-- `POP AF` (R285). -/
def execPopAF (s : State) : Result := .next (popPair .af s)

/-- `PUSH AF` (R283). -/
def execPushAF (s : State) : Result := .next (pushPair .af s)

end Sys2Proof.Machine
end

