-- ==== Sys2Proof/Machine/Unassigned.lean ====
section
/-! DEFINITION. Meanings of 49_unassigned.md R310 to R312: the eleven unassigned opcode bytes.
The shared operations come first, then one meaning for each row of the table. An operand is what the instruction's
bytes held; PC has been advanced past them (10_state.md R28). -/

namespace Sys2Proof.Machine

/-- `raise UnimplementedOpcode(start, opcode)` (R310): PC = start + 1 already; "nothing else has changed". -/
def unassigned (byte : Byte) (s : State) : State := s.raiseFault .unimplementedOpcode (s.pc - 1#16) byte

/-- `ILLEGAL_D3` (R310). -/
def execIllegalD3 (s : State) : Result := .next (unassigned 0xD3#8 s)

/-- `ILLEGAL_DB` (R310). -/
def execIllegalDB (s : State) : Result := .next (unassigned 0xDB#8 s)

/-- `ILLEGAL_DD` (R310). -/
def execIllegalDD (s : State) : Result := .next (unassigned 0xDD#8 s)

/-- `ILLEGAL_E3` (R310). -/
def execIllegalE3 (s : State) : Result := .next (unassigned 0xE3#8 s)

/-- `ILLEGAL_E4` (R310). -/
def execIllegalE4 (s : State) : Result := .next (unassigned 0xE4#8 s)

/-- `ILLEGAL_EB` (R310). -/
def execIllegalEB (s : State) : Result := .next (unassigned 0xEB#8 s)

/-- `ILLEGAL_EC` (R310). -/
def execIllegalEC (s : State) : Result := .next (unassigned 0xEC#8 s)

/-- `ILLEGAL_ED` (R310). -/
def execIllegalED (s : State) : Result := .next (unassigned 0xED#8 s)

/-- `ILLEGAL_F4` (R310). -/
def execIllegalF4 (s : State) : Result := .next (unassigned 0xF4#8 s)

/-- `ILLEGAL_FC` (R310). -/
def execIllegalFC (s : State) : Result := .next (unassigned 0xFC#8 s)

/-- `ILLEGAL_FD` (R310). -/
def execIllegalFD (s : State) : Result := .next (unassigned 0xFD#8 s)

end Sys2Proof.Machine
end

