-- ==== Sys2Proof/Machine/Fetch.lean ====
section
/-! DEFINITION. What a step does around the meaning of its instruction: its start, the fetch (30_encoding.md R110),
the halted tick, the boundary after it (60_exceptions.md R328), and placing an instruction where it is fetched. -/

namespace Sys2Proof.Machine

/-- "if fault != none or stopped = 1: no step exists" (R110): why a state has no step. -/
def State.noStep (s : State) : Option Fault :=
  match s.fault with
  | some r => some (.coreFaulted r)
  | none => if s.stopped then some .coreStopped else none

/-- The start of a step: the environment's turn (R328), and the step's outputs not yet given (log 10, log 11). -/
def State.beginStep (s : State) : State :=
  let t := s.environmentTurn
  { t with cycles := none, dispatchCycles := none, bus := { t.bus with joypadOut := [] } }

/-- The instruction at PC: its bytes are read "through the bus" at consecutive addresses mod 65536 (R111, R110;
bytes past its length are read and not used, log 9). -/
def State.fetchInstr (s : State) : Instr :=
  decodeBytes (s.read s.pc) (s.read (s.pc + 1#16)) (s.read (s.pc + 2#16))

/-- The length of the instruction at PC, by its first byte (R126). -/
def State.fetchLength (s : State) : Nat := lengthOf (s.read s.pc)

/-- PC "already advanced past every byte of the instruction fetched" (10_state.md R28). -/
def State.afterFetch (s : State) : State := (s.setPc (s.pc + BitVec.ofNat 16 s.fetchLength)).freshReads

/-- "if halted = 1: cycles <- 4; return (no fetch, no state change)" (R110, R382). -/
def State.haltedTick (s : State) : State := (s.tick 4).freshReads

/-- The boundary after a step (R328): the environment's turn, then the check; neither after a fault (R324) or STOP
(R297). -/
def State.boundary (s : State) : State :=
  match s.noStep with
  | some _ => s
  | none => s.environmentTurn.freshReads.interruptCheck.freshReads

/-- Put a byte into the storage that a read of `a` shows, growing the image to hold the selected bank. -/
def State.placeByte (s : State) (a : Word) (v : Byte) : State :=
  if a.toNat ≤ 0x3FFF then { s with bus := { s.bus with rom := s.bus.rom.write a.toNat v } }
  else if a.toNat ≤ 0x7FFF then
    { s with bus := { s.bus with
        rom := s.bus.rom.write (s.bus.bankOffset a) v
        romSize := max s.bus.romSize (s.bus.bank * 0x4000 + 0x4000) } }
  else { s with bus := { s.bus with mem := s.bus.mem.write (storageKey a) v } }

/-- An environment move less what it does to the addresses of a list. -/
def EnvMove.sparing (keys : List Nat) (mv : EnvMove) : EnvMove where
  requests := if addrIF ∈ keys then 0#5 else mv.requests
  writes := mv.writes.filter (fun x => !decide (0xFF00 + x.1.toNat ∈ keys))

/-- A state made ready to fetch the three bytes `b0`, `b1`, `b2` at its PC in its next step (log 2, log 14). -/
def State.withBytesAtPc (s : State) (b0 b1 b2 : Byte) : State :=
  let t := ((s.placeByte s.pc b0).placeByte (s.pc + 1#16) b1).placeByte (s.pc + 2#16) b2
  { t with
    halted := false, stopped := false, fault := none
    env := s.nextEnvMove.1.sparing [s.pc.toNat, (s.pc + 1#16).toNat, (s.pc + 2#16).toNat] :: s.nextEnvMove.2 }

end Sys2Proof.Machine
end

