-- ==== Sys2Proof/Machine/Step.lean ====
section
/-! DEFINITION. One step of the host's machine: one round of the run of 60_exceptions.md R328, "environment move;
`step()`; environment move; `check()`" (log 15). -/

namespace Sys2Proof.Machine

/-- R328's round, with the `step()` of 30_encoding.md R110 in it. -/
def step (s : State) : Host.Outcome State Fault Refusal :=
  match s.noStep with
  | some f => .fault f
  | none =>
    if s.beginStep.halted then .next s.beginStep.haltedTick.boundary
    else
      match exec s.beginStep.fetchInstr s.beginStep.afterFetch with
      | .next t => .next t.boundary
      | .fault f => .fault f
      | .refused r => .refused r

/-- `s` with a table word's instruction where the next step fetches: at PC (log 2, log 14). -/
def State.withFetchWord (s : State) (nbits w : Nat) : State :=
  match tableBytes nbits w with
  | [] => s
  | [b0] => s.withBytesAtPc b0 0#8 0#8
  | [b0, b1] => s.withBytesAtPc b0 b1 0#8
  | b0 :: b1 :: b2 :: _ => s.withBytesAtPc b0 b1 b2

end Sys2Proof.Machine
end

