-- ==== Sys2Proof/Safety.lean ====
section
/-! DEFINITION. What every state of a run looks like: the invariant of the block, part by part. Then the words that
claims about stores and encodings use: which bytes an instruction writes, which reads a write may change. -/

namespace Sys2Proof.Machine

/-- Both byte stores are in canonical form and hold only keys that exist (10_state.md R41, 00_scope.md R7). -/
structure Bus.StorageOk (b : Bus) : Prop where
  mem_wf   : b.mem.wf
  rom_wf   : b.rom.wf
  mem_keys : ∀ x ∈ b.mem, isStorageKey x.1
  rom_keys : ∀ x ∈ b.rom, x.1 < b.romSize

/-- The image has a size the reset accepts (00_scope.md R7, 70_reset_and_hazards.md R371). -/
structure Bus.ImageOk (b : Bus) : Prop where
  multiple : b.romSize % 0x4000 = 0
  large    : 0x8000 ≤ b.romSize

/-- `ROMBANK` is never 0 (10_state.md R39), and with no bank controller bank state never moves (R68). -/
structure Bus.BankOk (b : Bus) : Prop where
  bank_nonzero : b.romBank ≠ 0#5
  none_bank    : b.cartType = .none → b.romBank = 1#5
  none_mode    : b.cartType = .none → b.mbc1Mode = false

/-- Bits 7:5 of IE and IF read as 0 (10_state.md R36, R37). -/
structure Bus.MasksOk (b : Bus) : Prop where
  ie_mask : (b.mem.read addrIE).toNat < 0x20
  if_mask : (b.mem.read addrIF).toNat < 0x20

/-- The dirty marks are a set of VRAM addresses (10_state.md R50). -/
structure Bus.MarksOk (b : Bus) : Prop where
  rising : b.vramDirty.Pairwise (· < ·)
  inVram : ∀ k ∈ b.vramDirty, 0x8000 ≤ k ∧ k ≤ 0x9FFF

/-- The bus's part of the invariant. -/
structure Bus.Ok (b : Bus) : Prop where
  storage : b.StorageOk
  image   : b.ImageOk
  bank    : b.BankOk
  masks   : b.MasksOk
  marks   : b.MarksOk

/-- "The core is in exactly one of four run states" (60_exceptions.md R345), and "`halted = 1` implies `IME = 1`"
(R340). -/
structure State.RunStateOk (s : State) : Prop where
  halted_ime     : s.halted = true → s.ime = true
  halted_running : s.halted = true → s.stopped = false ∧ s.fault = none
  stopped_clean  : s.stopped = true → s.fault = none

/-- The invariant of the block. -/
structure State.Ok (s : State) : Prop where
  bus : s.bus.Ok
  run : s.RunStateOk

/-- A safe step: it answers a next state. -/
def State.StepsSafely (s : State) : Prop := ∃ t, step s = .next t

/-! ## What a claim about stores needs -/

/-- Storage whose write stores the byte and does nothing else ("plain storage (not ROM, not a side-effect register,
not IF/IE)", 47_stack.md R286), VRAM with its write-only marks included. -/
abbrev plainStorage (a : Word) : Prop :=
  0x8000 ≤ a.toNat ∧
    a.toNat ∉ [addrP1, addrDIV, addrIF, addrLCDC, addrSTAT, addrLY, addrDMA, addrBGP, addrOBP0, addrOBP1, addrIE]

/-- The reads that a write of `v` to `a` may change: of the byte stored to (through either address of a mirrored
pair, 20_memory.md R85), of LY when LCDC bit 7 changes (R77), of OAM after a DMA trigger (R79), and of the switchable
bank after a bank select (R70). Every other read gives what it gave. -/
def Bus.writeMayChange (b : Bus) (a : Word) (v : Byte) (x : Word) : Prop :=
  if a.toNat ≤ 0x7FFF then
    b.cartType = .mbc1 ∧ 0x2000 ≤ a.toNat ∧ a.toNat ≤ 0x3FFF ∧ 0x4000 ≤ x.toNat ∧ x.toNat ≤ 0x7FFF
  else
    (a.toNat ≠ addrP1 ∧ 0x8000 ≤ x.toNat ∧ storageKey x = storageKey a) ∨
    (a.toNat = addrLCDC ∧ (b.mem.read addrLCDC).getLsbD 7 ≠ v.getLsbD 7 ∧ x.toNat = addrLY) ∨
    (a.toNat = addrDMA ∧ 0xFE00 ≤ x.toNat ∧ x.toNat ≤ 0xFE9F)

/-- Byte writes in order. -/
def Bus.writes (b : Bus) : List (Word × Byte) → Bus
  | [] => b
  | p :: l => (b.write p.1 p.2).writes l

/-- The two byte writes of a push (47_stack.md R280). -/
def State.pushStores (s : State) (v : Word) : List (Word × Byte) :=
  [(s.sp - 1#16, hiByte v), (s.sp - 1#16 - 1#16, loByte v)]

/-- The byte writes an instruction makes, in order, each with the address and the byte its rule computes from the state
after the fetch. An instruction not listed makes none (`prefixCB`, which is no whole instruction, is not listed). -/
def byteStores (s : State) : Instr → List (Word × Byte)
  | .ldAtHLB => [(s.hl, s.getReg8 .b)]
  | .ldAtHLC => [(s.hl, s.getReg8 .c)]
  | .ldAtHLD => [(s.hl, s.getReg8 .d)]
  | .ldAtHLE => [(s.hl, s.getReg8 .e)]
  | .ldAtHLH => [(s.hl, s.getReg8 .h)]
  | .ldAtHLL => [(s.hl, s.getReg8 .l)]
  | .ldAtHLA => [(s.hl, s.getReg8 .a)]
  | .ldAtHLD8 n => [(s.hl, n)]
  | .ldAtBCA => [(s.bc, s.a)]
  | .ldAtDEA => [(s.de, s.a)]
  | .ldAtA16A w => [(w, s.a)]
  | .ldhAtA8A n => [(0xFF00#16 + n.setWidth 16, s.a)]
  | .ldAtCA => [(0xFF00#16 + s.c.setWidth 16, s.a)]
  | .ldAtHLIncA => [(s.hl, s.a)]
  | .ldAtHLDecA => [(s.hl, s.a)]
  | .ldAtA16SP w => [(w, loByte s.sp), (w + 1#16, hiByte s.sp)]
  | .incAtHL => [(s.hl, s.read s.hl + 1#8)]
  | .decAtHL => [(s.hl, s.read s.hl - 1#8)]
  | .rlcAtHL => [(s.hl, (shiftBits .rlc (s.read s.hl) s.fC).1)]
  | .rrcAtHL => [(s.hl, (shiftBits .rrc (s.read s.hl) s.fC).1)]
  | .rlAtHL => [(s.hl, (shiftBits .rl (s.read s.hl) s.fC).1)]
  | .rrAtHL => [(s.hl, (shiftBits .rr (s.read s.hl) s.fC).1)]
  | .slaAtHL => [(s.hl, (shiftBits .sla (s.read s.hl) s.fC).1)]
  | .sraAtHL => [(s.hl, (shiftBits .sra (s.read s.hl) s.fC).1)]
  | .swapAtHL => [(s.hl, (shiftBits .swap (s.read s.hl) s.fC).1)]
  | .srlAtHL => [(s.hl, (shiftBits .srl (s.read s.hl) s.fC).1)]
  | .res0AtHL => [(s.hl, s.read s.hl &&& ~~~(1#8 <<< 0))]
  | .res1AtHL => [(s.hl, s.read s.hl &&& ~~~(1#8 <<< 1))]
  | .res2AtHL => [(s.hl, s.read s.hl &&& ~~~(1#8 <<< 2))]
  | .res3AtHL => [(s.hl, s.read s.hl &&& ~~~(1#8 <<< 3))]
  | .res4AtHL => [(s.hl, s.read s.hl &&& ~~~(1#8 <<< 4))]
  | .res5AtHL => [(s.hl, s.read s.hl &&& ~~~(1#8 <<< 5))]
  | .res6AtHL => [(s.hl, s.read s.hl &&& ~~~(1#8 <<< 6))]
  | .res7AtHL => [(s.hl, s.read s.hl &&& ~~~(1#8 <<< 7))]
  | .set0AtHL => [(s.hl, s.read s.hl ||| (1#8 <<< 0))]
  | .set1AtHL => [(s.hl, s.read s.hl ||| (1#8 <<< 1))]
  | .set2AtHL => [(s.hl, s.read s.hl ||| (1#8 <<< 2))]
  | .set3AtHL => [(s.hl, s.read s.hl ||| (1#8 <<< 3))]
  | .set4AtHL => [(s.hl, s.read s.hl ||| (1#8 <<< 4))]
  | .set5AtHL => [(s.hl, s.read s.hl ||| (1#8 <<< 5))]
  | .set6AtHL => [(s.hl, s.read s.hl ||| (1#8 <<< 6))]
  | .set7AtHL => [(s.hl, s.read s.hl ||| (1#8 <<< 7))]
  | .pushBC => s.pushStores (s.getStackPair .bc)
  | .pushDE => s.pushStores (s.getStackPair .de)
  | .pushHL => s.pushStores (s.getStackPair .hl)
  | .pushAF => s.pushStores (s.getStackPair .af)
  | .callA16 _ => s.pushStores s.pc
  | .callNZA16 _ => if s.cond .nz then s.pushStores s.pc else []
  | .callZA16 _ => if s.cond .z then s.pushStores s.pc else []
  | .callNCA16 _ => if s.cond .nc then s.pushStores s.pc else []
  | .callCA16 _ => if s.cond .c then s.pushStores s.pc else []
  | .rst00 => s.pushStores s.pc
  | .rst08 => s.pushStores s.pc
  | .rst10 => s.pushStores s.pc
  | .rst18 => s.pushStores s.pc
  | .rst20 => s.pushStores s.pc
  | .rst28 => s.pushStores s.pc
  | .rst30 => s.pushStores s.pc
  | .rst38 => s.pushStores s.pc
  | _ => []

/-- The fault an instruction raises in a state after the fetch: an unassigned byte always (60_exceptions.md R321), HALT
with IME = 0 (R322); "Nothing else can happen" (R320). -/
def faultKindOf (s : State) : Instr → Option FaultKind
  | .illegalD3 | .illegalDB | .illegalDD | .illegalE3 | .illegalE4 | .illegalEB | .illegalEC | .illegalED
  | .illegalF4 | .illegalFC | .illegalFD => some .unimplementedOpcode
  | .halt => if s.ime then none else some .haltWithIMEClear
  | _ => none

/-- A state without what the spec calls outputs or never read: the two cycle counts (10_state.md R51), `MBC1MODE`
(R40), the display copies (R49), the dirty marks (R50) and the joypad output (00_scope.md R14). -/
def State.blind (s : State) : State :=
  { s with
    cycles := none
    dispatchCycles := none
    bus := { s.bus with
      mbc1Mode := false
      lcdc := Bus.reset.lcdc
      stat := Bus.reset.stat
      bgp := Bus.reset.bgp
      obp0 := Bus.reset.obp0
      obp1 := Bus.reset.obp1
      vramDirty := []
      joypadOut := [] } }

/-- The packed-BCD byte of a number below 100, as decimal arithmetic uses it (48_daa_misc.md R290). -/
def bcdByte (n : Nat) : Byte := BitVec.ofNat 8 (n / 10 * 16 + n % 10)

end Sys2Proof.Machine
end

