-- ==== Sys2Proof/WellFormed.lean ====
section
/-! DEFINITION. Which terms are instructions. Every operand is typed by its width, so no operand can be out of
range; the one term that is no instruction is the prefix byte by itself. -/

namespace Sys2Proof

/-- `PREFIX CB` "is not an instruction on its own" (30_encoding.md R121): the byte after it selects the
instruction. Every other row of the table is one whole instruction (R125, R128; the unassigned bytes too, whose
effect is the fault of R310). -/
def WellFormed (i : Instr) : Bool := i != .prefixCB

end Sys2Proof
end

