-- ==== Sys2Proof/Certificates/Slice0/Obligations.lean ====
section
/-! DEFINITION. The statements of this model, for the provers. Every result statement is an equation
`exec i s = .next t` with `t` written out as an update of `s`: it says that the instruction completes, what it writes,
and (by the equation) that it writes nothing else. The frames are stated again on their own, instruction group by
instruction group, through reads of registers and of memory bytes. `s` is always the state after the fetch: PC is past
the instruction's bytes (10_state.md R28). -/

section Statements

open Sys2Proof Sys2Proof.Machine

/-! ## Encoding -/

/-- Decoding the bytes of any well-formed instruction, whatever bytes follow them, gives the instruction and its
length (R110, R111, R126). -/
def Obligations.DecodeOfEncode : Prop :=
  ∀ (i : Instr) (rest : List Byte), WellFormed i = true →
    decode (encode i ++ rest) = .ok (i, (encode i).length)

/-- Every byte sequence has one instruction, and its encoding is the bytes it was read from: no two encodings share a
meaning and no encoding is left out. -/
def Obligations.EncodeOfDecode : Prop :=
  ∀ b0 b1 b2 : Byte, encode (decodeBytes b0 b1 b2) = [b0, b1, b2].take (lengthOf b0)

/-- Words written out bit by bit from the field layouts of 30_encoding.md (`xx yyy zzz`), one or more for each
family. -/
def Obligations.SampleEncodings : Prop :=
  decode [0b01000011#8] = .ok (.ldBE, 1) ∧                                        -- LD B,E      01 000 011
  decode [0b00100110#8, 0xC0#8] = .ok (.ldHD8 0xC0#8, 2) ∧                        -- LD H,d8     00 100 110
  decode [0b01111110#8] = .ok (.ldAAtHL, 1) ∧                                     -- LD A,(HL)   01 111 110
  decode [0b00110001#8, 0x34#8, 0x12#8] = .ok (.ldSPD16 0x1234#16, 3) ∧           -- LD SP,d16   00 110 001, low byte first
  decode [0b00101101#8] = .ok (.decL, 1) ∧                                        -- DEC L       00 101 101
  decode [0b10011100#8] = .ok (.sbcAH, 1) ∧                                       -- SBC A,H     10 011 100
  decode [0b11111110#8, 0x3C#8] = .ok (.cpD8 0x3C#8, 2) ∧                         -- CP d8       11 111 110
  decode [0b00011001#8] = .ok (.addHLDE, 1) ∧                                     -- ADD HL,DE   00 011 001
  decode [0b11001011#8, 0b00101111#8] = .ok (.sraA, 2) ∧                          -- SRA A       CB, 00 101 111
  decode [0b11001011#8, 0b01100101#8] = .ok (.bit4L, 2) ∧                         -- BIT 4,L     CB, 01 100 101
  decode [0b11001011#8, 0b11011000#8] = .ok (.set3B, 2) ∧                         -- SET 3,B     CB, 11 011 000
  decode [0b00110000#8, 0xFE#8] = .ok (.jrNCE8 0xFE#8, 2) ∧                       -- JR NC,e8    00 110 000
  decode [0b11011100#8, 0x00#8, 0x02#8] = .ok (.callCA16 0x0200#16, 3) ∧          -- CALL C,a16  11 011 100
  decode [0b11101111#8] = .ok (.rst28, 1) ∧                                       -- RST 28H     11 101 111
  decode [0b11110101#8] = .ok (.pushAF, 1) ∧                                      -- PUSH AF     11 110 101
  decode [0b00100111#8] = .ok (.daa, 1) ∧                                         -- DAA         00 100 111
  decode [0b01110110#8] = .ok (.halt, 1) ∧                                        -- HALT        01 110 110
  decode [0b11011101#8] = .ok (.illegalDD, 1)                                     -- unassigned  11 011 101

/-- Exactly the eleven bytes of R310 decode to an unassigned instruction, whatever follows them; a byte after 0xCB never
does (R311). -/
def Obligations.UnassignedBytes : Prop :=
  ∀ b0 b1 b2 : Byte,
    decodeBytes b0 b1 b2 ∈ [Instr.illegalD3, .illegalDB, .illegalDD, .illegalE3, .illegalE4, .illegalEB, .illegalEC,
        .illegalED, .illegalF4, .illegalFC, .illegalFD] ↔
      b0 ∈ [0xD3#8, 0xDB#8, 0xDD#8, 0xE3#8, 0xE4#8, 0xEB#8, 0xEC#8, 0xED#8, 0xF4#8, 0xFC#8, 0xFD#8]

/-! ## The step -/

/-- A step of a running core whose bytes at PC decode to a well-formed instruction `i` of `n` bytes: it is `exec i` in
the state with PC past those bytes, between the environment's turn before it and the boundary after it (R110, R28; the
round of one host step is log 15, the free-value counter log 5). -/
def Obligations.StepRunsDecodedInstruction : Prop :=
  ∀ (s : State) (i : Instr) (n : Nat), s.fault = none → s.stopped = false → s.halted = false → WellFormed i = true →
    decode [s.beginStep.read s.beginStep.pc, s.beginStep.read (s.beginStep.pc + 1#16),
      s.beginStep.read (s.beginStep.pc + 2#16)] = .ok (i, n) →
    step s =
      (match exec i (s.beginStep.setPc (s.beginStep.pc + BitVec.ofNat 16 n)).freshReads with
        | .next t => .next t.boundary
        | .fault f => .fault f
        | .refused r => .refused r)

/-- A step of a halted core fetches nothing, reports 4 cycles and changes no 8-bit register and no flag (R110, R382); the
round of one host step is log 15, the check after a halted tick the spec's decision D6, its own count its decision D8
(log 10). Where the check of that round does not dispatch, PC, SP, IME, the cartridge, the bank and MBC1MODE, the display
copies, the dirty marks and every byte outside 0xFF00..0xFF7F (the environment's) are as before too, nothing went out to
the joypad, and with IME = 1 the core is still halted; of 0x4000..0x7FFF this is said where the image has the selected
bank, since elsewhere a read is free (log 5). Where it dispatches, which takes IME = 1, IME and `halted` are clear, SP is 2
less and PC is a vector. -/
def Obligations.HaltedTick : Prop :=
  ∀ s : State, s.fault = none → s.stopped = false → s.halted = true →
    ∃ t, step s = .next t ∧ t.cycles = some 4 ∧
      (∀ r, t.getReg8 r = s.getReg8 r) ∧ t.flags = s.flags ∧ t.stopped = false ∧ t.fault = none ∧
      (t.dispatchCycles = some 0 ∨ t.dispatchCycles = some 20) ∧
      (t.dispatchCycles = some 0 →
        t.pc = s.pc ∧ t.sp = s.sp ∧ t.ime = s.ime ∧ t.bus.joypadOut = [] ∧
        t.bus.cartType = s.bus.cartType ∧ t.bus.rom = s.bus.rom ∧ t.bus.romSize = s.bus.romSize ∧
        t.bus.romBank = s.bus.romBank ∧ t.bus.mbc1Mode = s.bus.mbc1Mode ∧
        t.bus.lcdc = s.bus.lcdc ∧ t.bus.stat = s.bus.stat ∧ t.bus.bgp = s.bus.bgp ∧ t.bus.obp0 = s.bus.obp0 ∧
        t.bus.obp1 = s.bus.obp1 ∧ t.bus.vramDirty = s.bus.vramDirty ∧
        (∀ a : Word, a.toNat < 0xFF00 ∨ 0xFF7F < a.toNat →
          a.toNat < 0x4000 ∨ 0x8000 ≤ a.toNat ∨ s.bus.bank * 0x4000 < s.bus.romSize → t.read a = s.read a) ∧
        (s.ime = true → t.halted = true)) ∧
      (t.dispatchCycles = some 20 →
        s.ime = true ∧ t.ime = false ∧ t.halted = false ∧ t.sp = s.sp - 2#16 ∧
        ∃ i : Fin 5, t.pc = BitVec.ofNat 16 (0x0040 + 8 * i.val))

/-- Which states have a step, and how a state without one answers (R110, R34, R35). -/
def Obligations.StepsExactlyWhenNotStuck : Prop :=
  ∀ s : State,
    (s.StepsSafely ↔ s.fault = none ∧ s.stopped = false) ∧
    (∀ r, s.fault = some r → step s = .fault (.coreFaulted r)) ∧
    (s.fault = none → s.stopped = true → step s = .fault .coreStopped)

/-- Every instruction, in every state, completes: with a cycle count and no fault, unless it is an unassigned byte or a
HALT with IME = 0, which latches its record (R320). That a faulting instruction answers a next state with the record
latched is the model's reading of R324 (log 6); the HALT fault is the spec's decision D3, the PC of the record its
decision D4; that `PREFIX CB` counts as an instruction is the model's choice (log 8). -/
def Obligations.EveryInstructionCompletes : Prop :=
  ∀ (i : Instr) (s : State),
    ∃ t, exec i s = .next t ∧
      (match faultKindOf s i with
        | none => t.fault = s.fault ∧ t.cycles.isSome = true
        | some k => t.fault = some ⟨k, s.pc - 1#16, (encode i).headD 0#8⟩ ∧ t.cycles = none)

/-- A whole step that meets an unassigned byte: the record names the byte and its address, PC is one past it, no cycle
count and no check follow, every register, flag and the storage are as the environment's turn left them, and the next
step does not exist (R310, R321, R324). -/
def Obligations.UnassignedByteStopsTheCore : Prop :=
  ∀ (s : State) (b : Byte), s.fault = none → s.stopped = false → s.halted = false →
    s.beginStep.read s.pc = b →
    b ∈ [0xD3#8, 0xDB#8, 0xDD#8, 0xE3#8, 0xE4#8, 0xEB#8, 0xEC#8, 0xED#8, 0xF4#8, 0xFC#8, 0xFD#8] →
    ∃ t, step s = .next t ∧ t.fault = some ⟨.unimplementedOpcode, s.pc, b⟩ ∧ t.pc = s.pc + 1#16 ∧
      t.cycles = none ∧ t.dispatchCycles = none ∧ (∀ r, t.getReg8 r = s.getReg8 r) ∧ t.flags = s.flags ∧
      t.sp = s.sp ∧ t.ime = s.ime ∧ t.halted = false ∧ t.stopped = false ∧ t.bus.mem = s.beginStep.bus.mem ∧
      step t = .fault (.coreFaulted ⟨.unimplementedOpcode, s.pc, b⟩)

/-! ## Loads -/

/-- `LD r,r'`, `LD r,d8`, `LD r,(HL)` (R140, R141, R142). -/
def Obligations.LoadRegister : Prop :=
  ∀ (s : State) (dst src : Reg8) (n : Byte),
    exec (.ldReg dst src) s = .next { s.setReg8 dst (s.getReg8 src) with cycles := some 4 } ∧
    exec (.ldRegImm dst n) s = .next { s.setReg8 dst n with cycles := some 8 } ∧
    exec (.ldRegAtHL dst) s = .next { s.setReg8 dst (s.bus.read s.hl) with cycles := some 8 }

/-- `LD (HL),r`, `LD (HL),d8` (R143, R144). -/
def Obligations.StoreAtHL : Prop :=
  ∀ (s : State) (src : Reg8) (n : Byte),
    exec (.ldAtHLReg src) s = .next { s with bus := s.bus.write s.hl (s.getReg8 src), cycles := some 8 } ∧
    exec (.ldAtHLD8 n) s = .next { s with bus := s.bus.write s.hl n, cycles := some 12 }

/-- `LD A,(BC)`, `LD A,(DE)`, `LD A,(a16)`, `LDH A,(a8)`, `LD A,(C)` and the stores `LD (BC),A`, `LD (DE),A`, `LD (a16),A`,
`LDH (a8),A`, `LD (C),A` (R145 to R154). -/
def Obligations.LoadAndStoreA : Prop :=
  ∀ (s : State) (w : Word) (n : Byte),
    let load (x : Word) (k : Nat) : Result := .next { s with a := s.bus.read x, cycles := some k }
    let store (x : Word) (k : Nat) : Result := .next { s with bus := s.bus.write x s.a, cycles := some k }
    exec .ldAAtBC s = load (s.b ++ s.c) 8 ∧
    exec .ldAAtDE s = load (s.d ++ s.e) 8 ∧
    exec (.ldAAtA16 w) s = load w 16 ∧
    exec (.ldhAAtA8 n) s = load (BitVec.ofNat 16 (0xFF00 + n.toNat)) 12 ∧
    exec .ldAAtC s = load (BitVec.ofNat 16 (0xFF00 + s.c.toNat)) 8 ∧
    exec .ldAtBCA s = store (s.b ++ s.c) 8 ∧
    exec .ldAtDEA s = store (s.d ++ s.e) 8 ∧
    exec (.ldAtA16A w) s = store w 16 ∧
    exec (.ldhAtA8A n) s = store (BitVec.ofNat 16 (0xFF00 + n.toNat)) 12 ∧
    exec .ldAtCA s = store (BitVec.ofNat 16 (0xFF00 + s.c.toNat)) 8

/-- `LD (HL+),A`, `LD (HL-),A`, `LD A,(HL+)`, `LD A,(HL-)`: the access at the old HL, then HL moves by one, mod 65536
(R155 to R158). -/
def Obligations.LoadAndMoveHL : Prop :=
  ∀ s : State,
    exec .ldAtHLIncA s = .next { s with bus := s.bus.write s.hl s.a, hl := s.hl + 1#16, cycles := some 8 } ∧
    exec .ldAtHLDecA s = .next { s with bus := s.bus.write s.hl s.a, hl := s.hl - 1#16, cycles := some 8 } ∧
    exec .ldAAtHLInc s = .next { s with a := s.bus.read s.hl, hl := s.hl + 1#16, cycles := some 8 } ∧
    exec .ldAAtHLDec s = .next { s with a := s.bus.read s.hl, hl := s.hl - 1#16, cycles := some 8 }

/-- `LD rr,d16`, `LD (a16),SP`, `LD SP,HL` (R159, R160, R161): the high byte to B, D, H, the low byte to C, E, L; SP is
stored low byte first. -/
def Obligations.LoadPair : Prop :=
  ∀ (s : State) (w : Word),
    exec (.ldBCD16 w) s = .next { s with b := w.extractLsb' 8 8, c := w.extractLsb' 0 8, cycles := some 12 } ∧
    exec (.ldDED16 w) s = .next { s with d := w.extractLsb' 8 8, e := w.extractLsb' 0 8, cycles := some 12 } ∧
    exec (.ldHLD16 w) s = .next { s with hl := w, cycles := some 12 } ∧
    exec (.ldSPD16 w) s = .next { s with sp := w, cycles := some 12 } ∧
    exec (.ldAtA16SP w) s =
      .next { s with
        bus := (s.bus.write w (s.sp.extractLsb' 0 8)).write (w + 1#16) (s.sp.extractLsb' 8 8)
        cycles := some 20 } ∧
    exec .ldSPHL s = .next { s with sp := s.hl, cycles := some 8 }

/-! ## INC, DEC and 16-bit arithmetic -/

/-- `INC r`, `INC (HL)`, `DEC r`, `DEC (HL)`: result mod 256, fZ, fN, fH from the value before, fC kept; the memory
forms take their flags from the byte read (R170 to R175). -/
def Obligations.IncrementDecrement : Prop :=
  ∀ (s : State) (r : Reg8),
    let v := s.getReg8 r
    let m := s.bus.read s.hl
    exec (.incReg r) s = .next { s.setReg8 r (BitVec.ofNat 8 (v.toNat + 1)) with
      fZ := decide (v = 0xFF#8), fN := false, fH := decide (v.toNat % 16 = 0x0F), cycles := some 4 } ∧
    exec .incAtHL s = .next { s with
      bus := s.bus.write s.hl (BitVec.ofNat 8 (m.toNat + 1))
      fZ := decide (m = 0xFF#8), fN := false, fH := decide (m.toNat % 16 = 0x0F), cycles := some 12 } ∧
    exec (.decReg r) s = .next { s.setReg8 r (BitVec.ofNat 8 (v.toNat + 255)) with
      fZ := decide (v = 0x01#8), fN := true, fH := decide (v.toNat % 16 = 0x00), cycles := some 4 } ∧
    exec .decAtHL s = .next { s with
      bus := s.bus.write s.hl (BitVec.ofNat 8 (m.toNat + 255))
      fZ := decide (m = 0x01#8), fN := true, fH := decide (m.toNat % 16 = 0x00), cycles := some 12 }

/-- `INC rr`, `DEC rr`: mod 65536, no flag; `ADD HL,rr`: the sum mod 65536, fN 0, fH the carry out of bit 11, fC the carry
out of bit 15, fZ kept (R176, R177, R210). -/
def Obligations.PairArithmetic : Prop :=
  ∀ (s : State) (p : Pair),
    let x := s.hl.toNat
    let v := (s.getPair p).toNat
    exec (.incPair p) s = .next { s.setPair p (BitVec.ofNat 16 (v + 1)) with cycles := some 8 } ∧
    exec (.decPair p) s = .next { s.setPair p (BitVec.ofNat 16 (v + 65535)) with cycles := some 8 } ∧
    exec (.addHLPair p) s = .next { s with
      hl := BitVec.ofNat 16 (x + v)
      fN := false
      fH := decide (x % 4096 + v % 4096 > 4095)
      fC := decide (x + v > 0xFFFF)
      cycles := some 8 }

/-- `ADD SP,e8`, `LD HL,SP+e8`: the operand signed in the sum, unsigned in the flags (R211, R212, R213). -/
def Obligations.AddToSP : Prop :=
  ∀ (s : State) (e : Byte),
    let sum := BitVec.ofInt 16 ((s.sp.toNat : Int) + e.toInt)
    let h := decide (s.sp.toNat % 16 + e.toNat % 16 > 15)
    let c := decide (s.sp.toNat % 256 + e.toNat > 255)
    exec (.addSPE8 e) s =
      .next { s with sp := sum, fZ := false, fN := false, fH := h, fC := c, cycles := some 16 } ∧
    exec (.ldHLSPE8 e) s =
      .next { s with hl := sum, fZ := false, fN := false, fH := h, fC := c, cycles := some 12 }

/-! ## Arithmetic and logic on A -/

/-- `ADD`, `ADC` with register, `(HL)` and immediate operands (R180, R183 to R188). -/
def Obligations.AddWithAndWithoutCarry : Prop :=
  ∀ (s : State) (r : Reg8) (n : Byte),
    let sum (v : Byte) (cin k : Nat) : Result := .next { s with
      a := BitVec.ofNat 8 (s.a.toNat + v.toNat + cin)
      fZ := decide ((s.a.toNat + v.toNat + cin) % 256 = 0)
      fN := false
      fH := decide (s.a.toNat % 16 + v.toNat % 16 + cin > 0x0F)
      fC := decide (s.a.toNat + v.toNat + cin > 0xFF)
      cycles := some k }
    let carry := if s.fC then 1 else 0
    exec (.aluReg .add r) s = sum (s.getReg8 r) 0 4 ∧
    exec (.aluAtHL .add) s = sum (s.bus.read s.hl) 0 8 ∧
    exec (.aluImm .add n) s = sum n 0 8 ∧
    exec (.aluReg .adc r) s = sum (s.getReg8 r) carry 4 ∧
    exec (.aluAtHL .adc) s = sum (s.bus.read s.hl) carry 8 ∧
    exec (.aluImm .adc n) s = sum n carry 8

/-- `SUB`, `SBC`, `CP` with register, `(HL)` and immediate operands; CP writes the flags only (R181, R189 to R194, R204
to R206). -/
def Obligations.SubtractAndCompare : Prop :=
  ∀ (s : State) (r : Reg8) (n : Byte),
    let difference (v : Byte) (cin : Nat) : Byte := BitVec.ofNat 8 (s.a.toNat + 512 - v.toNat - cin)
    let flagged (x : Byte) (v : Byte) (cin k : Nat) : Result := .next { s with
      a := x
      fZ := decide ((s.a.toNat + 512 - v.toNat - cin) % 256 = 0)
      fN := true
      fH := decide (s.a.toNat % 16 < v.toNat % 16 + cin)
      fC := decide (s.a.toNat < v.toNat + cin)
      cycles := some k }
    let m := s.bus.read s.hl
    let carry := if s.fC then 1 else 0
    exec (.aluReg .sub r) s = flagged (difference (s.getReg8 r) 0) (s.getReg8 r) 0 4 ∧
    exec (.aluAtHL .sub) s = flagged (difference m 0) m 0 8 ∧
    exec (.aluImm .sub n) s = flagged (difference n 0) n 0 8 ∧
    exec (.aluReg .sbc r) s = flagged (difference (s.getReg8 r) carry) (s.getReg8 r) carry 4 ∧
    exec (.aluAtHL .sbc) s = flagged (difference m carry) m carry 8 ∧
    exec (.aluImm .sbc n) s = flagged (difference n carry) n carry 8 ∧
    exec (.aluReg .cp r) s = flagged s.a (s.getReg8 r) 0 4 ∧
    exec (.aluAtHL .cp) s = flagged s.a m 0 8 ∧
    exec (.aluImm .cp n) s = flagged s.a n 0 8

/-- `AND`, `XOR`, `OR` with register, `(HL)` and immediate operands (R182, R195 to R203). -/
def Obligations.LogicOnA : Prop :=
  ∀ (s : State) (r : Reg8) (n : Byte),
    let flagged (x : Byte) (h : Bool) (k : Nat) : Result := .next { s with
      a := x, fZ := decide (x = 0x00#8), fN := false, fH := h, fC := false, cycles := some k }
    let m := s.bus.read s.hl
    exec (.aluReg .and r) s = flagged (s.a &&& s.getReg8 r) true 4 ∧
    exec (.aluAtHL .and) s = flagged (s.a &&& m) true 8 ∧
    exec (.aluImm .and n) s = flagged (s.a &&& n) true 8 ∧
    exec (.aluReg .xor r) s = flagged (s.a ^^^ s.getReg8 r) false 4 ∧
    exec (.aluAtHL .xor) s = flagged (s.a ^^^ m) false 8 ∧
    exec (.aluImm .xor n) s = flagged (s.a ^^^ n) false 8 ∧
    exec (.aluReg .or r) s = flagged (s.a ||| s.getReg8 r) false 4 ∧
    exec (.aluAtHL .or) s = flagged (s.a ||| m) false 8 ∧
    exec (.aluImm .or n) s = flagged (s.a ||| n) false 8

/-! ## Rotates, shifts, bits -/

/-- `RLCA`, `RRCA`, `RLA`, `RRA`: A rotated, fC the bit moved out, fN and fH 0, and fZ 0 (that all four clear fZ is the
spec's decision D2). -/
def Obligations.RotateA : Prop :=
  ∀ s : State,
    let flagged (x : Byte) (c : Bool) : Result := .next { s with
      a := x, fZ := false, fN := false, fH := false, fC := c, cycles := some 4 }
    exec .rlca s = flagged (s.a.rotateLeft 1) (s.a.getLsbD 7) ∧
    exec .rrca s = flagged (s.a.rotateRight 1) (s.a.getLsbD 0) ∧
    exec .rla s = flagged ((s.a <<< 1) ||| (BitVec.ofBool s.fC).setWidth 8) (s.a.getLsbD 7) ∧
    exec .rra s = flagged ((s.a >>> 1) ||| ((BitVec.ofBool s.fC).setWidth 8 <<< 7)) (s.a.getLsbD 0)

/-- `RLC`, `RRC`, `RL`, `RR` on a register and on the byte at HL (R224 to R227, R232 to R239). -/
def Obligations.RotateRegisterOrMemory : Prop :=
  ∀ (s : State) (r : Reg8),
    let toReg (x : Byte) (c : Bool) : Result := .next { s.setReg8 r x with
      fZ := decide (x = 0x00#8), fN := false, fH := false, fC := c, cycles := some 8 }
    let toMem (x : Byte) (c : Bool) : Result := .next { s with
      bus := s.bus.write s.hl x, fZ := decide (x = 0x00#8), fN := false, fH := false, fC := c, cycles := some 16 }
    let v := s.getReg8 r
    let m := s.bus.read s.hl
    let low : Byte := (BitVec.ofBool s.fC).setWidth 8
    exec (.shiftReg .rlc r) s = toReg (v.rotateLeft 1) (v.getLsbD 7) ∧
    exec (.shiftAtHL .rlc) s = toMem (m.rotateLeft 1) (m.getLsbD 7) ∧
    exec (.shiftReg .rrc r) s = toReg (v.rotateRight 1) (v.getLsbD 0) ∧
    exec (.shiftAtHL .rrc) s = toMem (m.rotateRight 1) (m.getLsbD 0) ∧
    exec (.shiftReg .rl r) s = toReg ((v <<< 1) ||| low) (v.getLsbD 7) ∧
    exec (.shiftAtHL .rl) s = toMem ((m <<< 1) ||| low) (m.getLsbD 7) ∧
    exec (.shiftReg .rr r) s = toReg ((v >>> 1) ||| (low <<< 7)) (v.getLsbD 0) ∧
    exec (.shiftAtHL .rr) s = toMem ((m >>> 1) ||| (low <<< 7)) (m.getLsbD 0)

/-- `SLA`, `SRA`, `SWAP`, `SRL` on a register and on the byte at HL (R228 to R231, R240 to R247). -/
def Obligations.ShiftRegisterOrMemory : Prop :=
  ∀ (s : State) (r : Reg8),
    let toReg (x : Byte) (c : Bool) : Result := .next { s.setReg8 r x with
      fZ := decide (x = 0x00#8), fN := false, fH := false, fC := c, cycles := some 8 }
    let toMem (x : Byte) (c : Bool) : Result := .next { s with
      bus := s.bus.write s.hl x, fZ := decide (x = 0x00#8), fN := false, fH := false, fC := c, cycles := some 16 }
    let v := s.getReg8 r
    let m := s.bus.read s.hl
    exec (.shiftReg .sla r) s = toReg (v <<< 1) (v.getLsbD 7) ∧
    exec (.shiftAtHL .sla) s = toMem (m <<< 1) (m.getLsbD 7) ∧
    exec (.shiftReg .sra r) s = toReg (v.sshiftRight 1) (v.getLsbD 0) ∧
    exec (.shiftAtHL .sra) s = toMem (m.sshiftRight 1) (m.getLsbD 0) ∧
    exec (.shiftReg .swap r) s = toReg (v.rotateLeft 4) false ∧
    exec (.shiftAtHL .swap) s = toMem (m.rotateLeft 4) false ∧
    exec (.shiftReg .srl r) s = toReg (v >>> 1) (v.getLsbD 0) ∧
    exec (.shiftAtHL .srl) s = toMem (m >>> 1) (m.getLsbD 0)

/-- `BIT b`, `RES b`, `SET b` on a register and on the byte at HL (R250 to R255). -/
def Obligations.BitInstructions : Prop :=
  ∀ (s : State) (b : Fin 8) (r : Reg8),
    let v := s.getReg8 r
    let m := s.bus.read s.hl
    exec (.bitReg b r) s = .next { s with fZ := !v.getLsbD b, fN := false, fH := true, cycles := some 8 } ∧
    exec (.bitAtHL b) s = .next { s with fZ := !m.getLsbD b, fN := false, fH := true, cycles := some 12 } ∧
    exec (.resReg b r) s = .next { s.setReg8 r (v &&& ~~~(BitVec.twoPow 8 b)) with cycles := some 8 } ∧
    exec (.resAtHL b) s = .next { s with bus := s.bus.write s.hl (m &&& ~~~(BitVec.twoPow 8 b)), cycles := some 16 } ∧
    exec (.setReg b r) s = .next { s.setReg8 r (v ||| BitVec.twoPow 8 b) with cycles := some 8 } ∧
    exec (.setAtHL b) s = .next { s with bus := s.bus.write s.hl (m ||| BitVec.twoPow 8 b), cycles := some 16 }

/-! ## Control flow and the stack -/

/-- `JP a16`, `JP cc,a16`, `JP (HL)`, `JR e8`, `JR cc,e8`, with each condition spelt out (R260 to R265). -/
def Obligations.Jumps : Prop :=
  ∀ (s : State) (w : Word) (e : Byte),
    let goto (t : Word) (k : Nat) : Result := .next { s with pc := t, cycles := some k }
    let rel : Word := BitVec.ofInt 16 ((s.pc.toNat : Int) + e.toInt)
    exec (.jpA16 w) s = goto w 16 ∧
    exec .jpAtHL s = goto s.hl 4 ∧
    exec (.jrE8 e) s = goto rel 12 ∧
    exec (.jpNZA16 w) s = (if s.fZ = false then goto w 16 else goto s.pc 12) ∧
    exec (.jpZA16 w) s = (if s.fZ = true then goto w 16 else goto s.pc 12) ∧
    exec (.jpNCA16 w) s = (if s.fC = false then goto w 16 else goto s.pc 12) ∧
    exec (.jpCA16 w) s = (if s.fC = true then goto w 16 else goto s.pc 12) ∧
    exec (.jrNZE8 e) s = (if s.fZ = false then goto rel 12 else goto s.pc 8) ∧
    exec (.jrZE8 e) s = (if s.fZ = true then goto rel 12 else goto s.pc 8) ∧
    exec (.jrNCE8 e) s = (if s.fC = false then goto rel 12 else goto s.pc 8) ∧
    exec (.jrCE8 e) s = (if s.fC = true then goto rel 12 else goto s.pc 8)

/-- `CALL a16`, `CALL cc,a16`, `RST t`: PC pushed high byte first at SP - 1 and SP - 2, then PC at the target (R266,
R267, R271, R280). -/
def Obligations.CallsAndRestarts : Prop :=
  ∀ (s : State) (w : Word) (y : Fin 8),
    let goto (t : Word) (k : Nat) : Result := .next { s with
      sp := s.sp - 2#16
      bus := (s.bus.write (s.sp - 1#16) (s.pc.extractLsb' 8 8)).write (s.sp - 2#16) (s.pc.extractLsb' 0 8)
      pc := t
      cycles := some k }
    let no : Result := .next { s with cycles := some 12 }
    exec (.callA16 w) s = goto w 24 ∧
    exec (.callNZA16 w) s = (if s.fZ = false then goto w 24 else no) ∧
    exec (.callZA16 w) s = (if s.fZ = true then goto w 24 else no) ∧
    exec (.callNCA16 w) s = (if s.fC = false then goto w 24 else no) ∧
    exec (.callCA16 w) s = (if s.fC = true then goto w 24 else no) ∧
    exec (.rst y) s = goto (BitVec.ofNat 16 (y.val * 8)) 16

/-- `RET`, `RET cc`: PC from the two bytes at SP, low byte first, SP two more (R268, R269, R281). -/
def Obligations.Returns : Prop :=
  ∀ s : State,
    let back (k : Nat) : Result := .next { s with
      pc := s.bus.read (s.sp + 1#16) ++ s.bus.read s.sp, sp := s.sp + 2#16, cycles := some k }
    let no : Result := .next { s with cycles := some 8 }
    exec .ret s = back 16 ∧
    exec .retNZ s = (if s.fZ = false then back 20 else no) ∧
    exec .retZ s = (if s.fZ = true then back 20 else no) ∧
    exec .retNC s = (if s.fC = false then back 20 else no) ∧
    exec .retC s = (if s.fC = true then back 20 else no)

/-- `PUSH rr`, `PUSH AF`, `POP rr`, `POP AF` (R280 to R285). -/
def Obligations.PushAndPop : Prop :=
  ∀ s : State,
    let pushed (h l : Byte) : Result := .next { s with
      sp := s.sp - 2#16, bus := (s.bus.write (s.sp - 1#16) h).write (s.sp - 2#16) l, cycles := some 16 }
    let hi := s.bus.read (s.sp + 1#16)
    let lo := s.bus.read s.sp
    let f : Byte := BitVec.ofBool s.fZ ++ BitVec.ofBool s.fN ++ BitVec.ofBool s.fH ++ BitVec.ofBool s.fC ++ 0#4
    exec .pushBC s = pushed s.b s.c ∧
    exec .pushDE s = pushed s.d s.e ∧
    exec .pushHL s = pushed (s.hl.extractLsb' 8 8) (s.hl.extractLsb' 0 8) ∧
    exec .pushAF s = pushed s.a f ∧
    exec .popBC s = .next { s with b := hi, c := lo, sp := s.sp + 2#16, cycles := some 12 } ∧
    exec .popDE s = .next { s with d := hi, e := lo, sp := s.sp + 2#16, cycles := some 12 } ∧
    exec .popHL s = .next { s with hl := hi ++ lo, sp := s.sp + 2#16, cycles := some 12 } ∧
    exec .popAF s = .next { s with
      a := hi
      fZ := lo.getLsbD 7
      fN := lo.getLsbD 6
      fH := lo.getLsbD 5
      fC := lo.getLsbD 4
      sp := s.sp + 2#16
      cycles := some 12 }

/-- `PUSH rr; POP ss` with the two bytes below SP plain storage: `ss` holds what `rr` held (for AF with bits 3:0 zero), SP
and every register outside `ss` are as they were, and the pushed word is left below SP (the spec's derived rule on the
round trip; the storage in canonical form). -/
def Obligations.PushPopRoundTrip : Prop :=
  ∀ (s : State) (p q : StackPair), s.bus.mem.wf → plainStorage (s.sp - 1#16) → plainStorage (s.sp - 2#16) →
    ∃ t u, exec (.push p) s = .next t ∧ exec (.pop q) t = .next u ∧
      u.getStackPair q = (if q = .af then s.getStackPair p &&& 0xFFF0#16 else s.getStackPair p) ∧
      u.getStackPair p = s.getStackPair p ∧ u.sp = s.sp ∧
      (∀ q', q' ≠ q → u.getStackPair q' = s.getStackPair q') ∧
      u.read (s.sp - 1#16) = (s.getStackPair p).extractLsb' 8 8 ∧
      u.read (s.sp - 2#16) = (s.getStackPair p).extractLsb' 0 8

/-! ## DAA and the single-purpose instructions -/

/-- `DAA`: the two branches of R290, each with its adjustment chosen from the old A and flags. -/
def Obligations.DecimalAdjust : Prop :=
  ∀ s : State,
    let x := s.a.toNat
    let six := if s.fH = true ∨ x % 16 > 9 then 0x06 else 0
    let sixty := if s.fC = true ∨ x > 0x99 then 0x60 else 0
    let six' := if s.fH = true then 0x06 else 0
    let sixty' := if s.fC = true then 0x60 else 0
    let adjusted (y : Byte) (c : Bool) : Result := .next { s with
      a := y, fZ := decide (y = 0x00#8), fH := false, fC := c, cycles := some 4 }
    (s.fN = false → exec .daa s = adjusted (BitVec.ofNat 8 (x + (sixty + six))) (s.fC || decide (x > 0x99))) ∧
    (s.fN = true → exec .daa s = adjusted (BitVec.ofNat 8 (x + 256 - (sixty' + six'))) s.fC)

/-- Decimal arithmetic: `ADC A,d8; DAA` adds two-digit decimal numbers and `SBC A,d8; DAA` subtracts them, fC the decimal
carry or borrow in and out (R207 law (f), R290). -/
def Obligations.DecimalArithmetic : Prop :=
  ∀ (s : State) (x y : Nat), x < 100 → y < 100 → s.a = bcdByte x →
    let cin := if s.fC then 1 else 0
    (∃ t u, exec (.adcAD8 (bcdByte y)) s = .next t ∧ exec .daa t = .next u ∧
      u.a = bcdByte ((x + y + cin) % 100) ∧ u.fC = decide (x + y + cin ≥ 100)) ∧
    (∃ t u, exec (.sbcAD8 (bcdByte y)) s = .next t ∧ exec .daa t = .next u ∧
      u.a = bcdByte ((x + 200 - y - cin) % 100) ∧ u.fC = decide (x < y + cin))

/-- `CPL`, `SCF`, `CCF`, `NOP` (R291, R292, R293, R298; the count of NOP is 0). -/
def Obligations.FlagInstructionsAndNop : Prop :=
  ∀ s : State,
    exec .cpl s = .next { s with a := ~~~s.a, fN := true, fH := true, cycles := some 4 } ∧
    exec .scf s = .next { s with fC := true, fN := false, fH := false, cycles := some 4 } ∧
    exec .ccf s = .next { s with fC := !s.fC, fN := false, fH := false, cycles := some 4 } ∧
    exec .nop s = .next { s with cycles := some 0 }

/-- `DI`, `EI`, `RETI`, `STOP`: IME written at once (decision D7), `stopped` set (decision D9). -/
def Obligations.InterruptEnableAndStop : Prop :=
  ∀ s : State,
    exec .di s = .next { s with ime := false, cycles := some 4 } ∧
    exec .ei s = .next { s with ime := true, cycles := some 4 } ∧
    exec .reti s = .next { s with
      pc := s.bus.read (s.sp + 1#16) ++ s.bus.read s.sp, sp := s.sp + 2#16, ime := true, cycles := some 16 } ∧
    exec .stop s = .next { s with stopped := true, cycles := some 4 }

/-- `HALT`: halted with IME = 1; with IME = 0 the fatal fault (decision D3 names it, D4 places PC), nothing else changed. -/
def Obligations.Halt : Prop :=
  ∀ s : State,
    (s.ime = true → exec .halt s = .next { s with halted := true, cycles := some 4 }) ∧
    (s.ime = false → exec .halt s =
      .next { s with fault := some ⟨.haltWithIMEClear, s.pc - 1#16, 0x76#8⟩, cycles := none })

/-- The eleven unassigned bytes: the record latched with the byte and the address it was fetched from (PC is one past
it), nothing else changed, no cycle count (R310). -/
def Obligations.UnassignedInstructions : Prop :=
  ∀ s : State,
    let raised (b : Byte) : Result :=
      .next { s with fault := some ⟨.unimplementedOpcode, s.pc - 1#16, b⟩, cycles := none }
    exec .illegalD3 s = raised 0xD3#8 ∧ exec .illegalDB s = raised 0xDB#8 ∧ exec .illegalDD s = raised 0xDD#8 ∧
    exec .illegalE3 s = raised 0xE3#8 ∧ exec .illegalE4 s = raised 0xE4#8 ∧ exec .illegalEB s = raised 0xEB#8 ∧
    exec .illegalEC s = raised 0xEC#8 ∧ exec .illegalED s = raised 0xED#8 ∧ exec .illegalF4 s = raised 0xF4#8 ∧
    exec .illegalFC s = raised 0xFC#8 ∧ exec .illegalFD s = raised 0xFD#8

/-- `PREFIX CB` fetches one more byte at once and executes the extended-page instruction it selects, in the same step, with
PC past it; that instruction is never the prefix again, and a second 0xCB is `SET 1,E` (30_encoding.md R121). That the
prefix is an instruction of its own, whose `exec` no step reaches, is the model's choice (log 8), and so is the counter
`freeReads` that it advances (log 5). -/
def Obligations.PrefixRunsExtendedInstruction : Prop :=
  ∀ s : State,
    decodeBytes 0xCB#8 (s.bus.read s.pc) 0#8 ≠ .prefixCB ∧
    decodeBytes 0xCB#8 0xCB#8 0#8 = .set1E ∧
    exec .prefixCB s =
      exec (decodeBytes 0xCB#8 (s.bus.read s.pc) 0#8)
        { s with pc := s.pc + 1#16, bus := { s.bus with freeReads := s.bus.freeReads + 1 } } ∧
    ∃ t, exec .prefixCB s = .next t ∧ t.cycles.isSome = true

/-! ## Frames -/

/-- The forms with one 8-bit register as destination: every other register, SP, PC, the run state and every byte of memory
are as before; loads, RES and SET write no flag, INC and DEC keep fC. -/
def Obligations.RegisterFormsFrame : Prop :=
  ∀ (s t : State) (r src : Reg8) (n : Byte) (o : ShiftOp) (b : Fin 8) (i : Instr),
    i ∈ [Instr.ldReg r src, .ldRegImm r n, .ldRegAtHL r, .incReg r, .decReg r, .shiftReg o r, .resReg b r,
      .setReg b r] →
    exec i s = .next t →
    (∀ r', r' ≠ r → t.getReg8 r' = s.getReg8 r') ∧ t.sp = s.sp ∧ t.pc = s.pc ∧ t.ime = s.ime ∧
    t.halted = s.halted ∧ t.stopped = s.stopped ∧ t.fault = s.fault ∧ t.bus = s.bus ∧
    (∀ x : Word, t.read x = s.read x) ∧
    (i ∈ [Instr.ldReg r src, .ldRegImm r n, .ldRegAtHL r, .resReg b r, .setReg b r] → t.flags = s.flags) ∧
    (i ∈ [Instr.incReg r, .decReg r] → t.fC = s.fC)

/-- The forms that write A and flags, flags alone, or nothing: every register but A, SP, PC and every byte of memory are as
before; CP, BIT, SCF, CCF, NOP, DI and EI keep A as well; each flag the rule does not name is as before, and IME changes
in DI and EI only. -/
def Obligations.AccumulatorFormsFrame : Prop :=
  ∀ (s t : State) (o : AluOp) (r : Reg8) (n : Byte) (b : Fin 8) (w : Word) (i : Instr),
    i ∈ [Instr.aluReg o r, .aluAtHL o, .aluImm o n, .rlca, .rrca, .rla, .rra, .daa, .cpl, .ldAAtBC, .ldAAtDE,
      .ldAAtA16 w, .ldhAAtA8 n, .ldAAtC, .bitReg b r, .bitAtHL b, .scf, .ccf, .nop, .di, .ei] →
    exec i s = .next t →
    (∀ r', r' ≠ .a → t.getReg8 r' = s.getReg8 r') ∧ t.sp = s.sp ∧ t.pc = s.pc ∧
    t.halted = s.halted ∧ t.stopped = s.stopped ∧ t.fault = s.fault ∧ t.bus = s.bus ∧
    (∀ x : Word, t.read x = s.read x) ∧
    (i ≠ .di → i ≠ .ei → t.ime = s.ime) ∧
    (i ∈ [Instr.aluReg .cp r, .aluAtHL .cp, .aluImm .cp n, .bitReg b r, .bitAtHL b, .scf, .ccf, .nop, .di, .ei] →
      t.a = s.a) ∧
    (i ∈ [Instr.ldAAtBC, .ldAAtDE, .ldAAtA16 w, .ldhAAtA8 n, .ldAAtC, .nop, .di, .ei] → t.flags = s.flags) ∧
    (i ∈ [Instr.bitReg b r, .bitAtHL b, .cpl] → t.fC = s.fC) ∧
    (i ∈ [Instr.scf, .ccf, .cpl] → t.fZ = s.fZ) ∧
    (i = .daa → t.fN = s.fN)

/-- The forms that write a 16-bit register and no memory: every register outside the pair, the run state and every byte of
memory are as before; PC too; the loads, INC rr and DEC rr write no flag, ADD HL,rr keeps fZ. -/
def Obligations.PairFormsFrame : Prop :=
  ∀ (s t : State) (p : Pair) (w : Word) (e : Byte) (i : Instr) (dst : Pair),
    (i, dst) ∈ [(Instr.ldPairImm p w, p), (.incPair p, p), (.decPair p, p), (.addHLPair p, .hl), (.ldSPHL, .sp),
      (.addSPE8 e, .sp), (.ldHLSPE8 e, .hl)] →
    exec i s = .next t →
    (∀ p', p' ≠ dst → t.getPair p' = s.getPair p') ∧ t.a = s.a ∧ t.pc = s.pc ∧ t.ime = s.ime ∧
    t.halted = s.halted ∧ t.stopped = s.stopped ∧ t.fault = s.fault ∧ t.bus = s.bus ∧
    (∀ x : Word, t.read x = s.read x) ∧
    (i ∈ [Instr.ldPairImm p w, .incPair p, .decPair p, .ldSPHL] → t.flags = s.flags) ∧
    (i = .addHLPair p → t.fZ = s.fZ)

/-- The storing forms and the moving loads: every 8-bit register (but A in the two loads), SP, PC and the run state are as
before, HL but for the four forms that move it; the loads and RES, SET write no flag, INC and DEC keep fC; and every
byte of memory reads as before that the store at the computed address may not change (R85, R77, R79 and R70 say which
those are). -/
def Obligations.StoringFormsFrame : Prop :=
  ∀ (s t : State) (src : Reg8) (n : Byte) (w : Word) (o : ShiftOp) (b : Fin 8) (i : Instr),
    i ∈ [Instr.ldAtHLReg src, .ldAtHLD8 n, .ldAtBCA, .ldAtDEA, .ldAtA16A w, .ldhAtA8A n, .ldAtCA, .ldAtHLIncA,
      .ldAtHLDecA, .ldAAtHLInc, .ldAAtHLDec, .ldAtA16SP w, .incAtHL, .decAtHL, .shiftAtHL o, .resAtHL b, .setAtHL b] →
    exec i s = .next t →
    t.b = s.b ∧ t.c = s.c ∧ t.d = s.d ∧ t.e = s.e ∧ t.sp = s.sp ∧ t.pc = s.pc ∧ t.ime = s.ime ∧
    t.halted = s.halted ∧ t.stopped = s.stopped ∧ t.fault = s.fault ∧
    (i ∉ [Instr.ldAAtHLInc, .ldAAtHLDec] → t.a = s.a) ∧
    (i ∉ [Instr.ldAtHLIncA, .ldAtHLDecA, .ldAAtHLInc, .ldAAtHLDec] → t.hl = s.hl) ∧
    (i ∉ [Instr.incAtHL, .decAtHL, .shiftAtHL o] → t.flags = s.flags) ∧
    (i ∈ [Instr.incAtHL, .decAtHL] → t.fC = s.fC) ∧
    (∀ x : Word, (∀ st ∈ byteStores s i, ¬ s.bus.writeMayChange st.1 st.2 x) → t.read x = s.read x)

/-- Jumps, calls, returns, pushes and pops: every register but SP and a popped pair, the flags but in POP AF, and the run
state but IME in RETI are as before; jumps keep SP; pushes and pops keep PC; and every byte of memory reads as before
that the writes the form makes at SP - 1 and SP - 2 may not change, all of memory for a form that pushes nothing. -/
def Obligations.StackAndControlFrame : Prop :=
  ∀ (s t : State) (cc : Cond) (w : Word) (e : Byte) (y : Fin 8) (p : StackPair) (i : Instr),
    i ∈ [Instr.jpA16 w, .jpCond cc w, .jpAtHL, .jrE8 e, .jrCond cc e, .callA16 w, .callCond cc w, .ret, .retCond cc,
      .reti, .rst y, .push p, .pop p] →
    exec i s = .next t →
    (∀ q, i ≠ .pop q → t.getStackPair q = s.getStackPair q) ∧
    (i ≠ .pop .af → t.flags = s.flags) ∧
    t.halted = s.halted ∧ t.stopped = s.stopped ∧ t.fault = s.fault ∧
    (i ≠ .reti → t.ime = s.ime) ∧
    (i ∈ [Instr.jpA16 w, .jpCond cc w, .jpAtHL, .jrE8 e, .jrCond cc e] → t.sp = s.sp) ∧
    (i ∈ [Instr.push p, .pop p] → t.pc = s.pc) ∧
    (i ∈ [Instr.callA16 w, .rst y] → byteStores s i = s.pushStores s.pc) ∧
    (i = .callCond cc w → byteStores s i = if s.cond cc then s.pushStores s.pc else []) ∧
    (i = .push p → byteStores s i = s.pushStores (s.getStackPair p)) ∧
    (i ∉ [Instr.callA16 w, .callCond cc w, .rst y, .push p] → t.bus = s.bus ∧ ∀ x : Word, t.read x = s.read x) ∧
    (∀ x : Word, (∀ st ∈ byteStores s i, ¬ s.bus.writeMayChange st.1 st.2 x) → t.read x = s.read x)

/-- Every instruction changes the bus by exactly its listed byte writes, in order, at the addresses and with the bytes its
rule computes; an instruction that lists none leaves the whole bus as it was. -/
def Obligations.BusChangesOnlyByListedWrites : Prop :=
  ∀ (i : Instr) (s t : State), WellFormed i = true → exec i s = .next t → t.bus = s.bus.writes (byteStores s i)

/-- Which instructions write the run state: IME is written by DI, EI and RETI only, `halted` is set by HALT with IME = 1
only, `stopped` by STOP only, the fault register by an unassigned byte or a HALT with IME = 0 only; no instruction
clears any of the last three (10_state.md R31 to R35). That EI and RETI write IME in their own step is the spec's decision
D7, the `stopped` bit its decision D9, the fault of HALT with IME = 0 its decision D3. -/
def Obligations.RunStateWriters : Prop :=
  ∀ (i : Instr) (s t : State), exec i s = .next t →
    t.ime = (if i = .di then false else if i = .ei ∨ i = .reti then true else s.ime) ∧
    t.halted = (s.halted || (decide (i = .halt) && s.ime)) ∧
    t.stopped = (s.stopped || decide (i = .stop)) ∧
    (faultKindOf s i = none → t.fault = s.fault) ∧
    (faultKindOf s i ≠ none → t.fault ≠ none) ∧
    (s.fault ≠ none → t.fault ≠ none)

/-! ## The bus -/

/-- What a read returns, by address: the image byte below 0x4000, the selected bank's byte in 0x4000..0x7FFF where the
image has it (the formula of R64), the byte 0x2000 below in the echo range, the stored byte elsewhere (20_memory.md R62,
R63, R65); that a read of an I/O register returns the stored byte is the spec's decision D12. -/
def Obligations.ReadMap : Prop :=
  ∀ (b : Bus) (a : Word),
    (a.toNat ≤ 0x3FFF → b.read a = b.rom.read a.toNat) ∧
    (0x4000 ≤ a.toNat → a.toNat ≤ 0x7FFF → b.cartType = .mbc1 → b.romBank.toNat * 0x4000 < b.romSize →
      b.read a = b.rom.read (b.romBank.toNat * 0x4000 + (a.toNat - 0x4000))) ∧
    (0x4000 ≤ a.toNat → a.toNat ≤ 0x7FFF → b.cartType = .none → 0x4000 < b.romSize → b.read a = b.rom.read a.toNat) ∧
    (0xE000 ≤ a.toNat → a.toNat ≤ 0xFDFF → b.read a = b.mem.read (a.toNat - 0x2000)) ∧
    (0x8000 ≤ a.toNat → a.toNat < 0xE000 ∨ 0xFDFF < a.toNat → b.read a = b.mem.read a.toNat)

/-- The bank commands: with no bank controller a write below 0x8000 changes nothing; with MBC1 a write to 0x2000..0x3FFF
selects the bank of its low five bits, 1 for 0, a write to 0x6000..0x7FFF sets the mode bit, the other two windows change
nothing (the command windows and the five bits are the spec's decisions D10, D11). -/
def Obligations.BankCommands : Prop :=
  ∀ (b : Bus) (a : Word) (v : Byte), a.toNat < 0x8000 →
    (b.cartType = .none → b.write a v = b) ∧
    (b.cartType = .mbc1 → 0x2000 ≤ a.toNat → a.toNat < 0x4000 →
      b.write a v = { b with romBank := BitVec.ofNat 5 (if v.toNat % 32 = 0 then 1 else v.toNat % 32) }) ∧
    (b.cartType = .mbc1 → 0x6000 ≤ a.toNat → b.write a v = { b with mbc1Mode := decide (v.toNat % 2 = 1) }) ∧
    (b.cartType = .mbc1 → a.toNat < 0x2000 ∨ (0x4000 ≤ a.toNat ∧ a.toNat < 0x6000) → b.write a v = b)

/-- The mirror: a write to either half of a mirrored pair is read back through both, and changes no other read (R85). -/
def Obligations.EchoMirror : Prop :=
  ∀ (b : Bus) (a : Word) (v : Byte), b.mem.wf → 0xC000 ≤ a.toNat → a.toNat ≤ 0xDDFF →
    (b.write a v).read a = v ∧ (b.write a v).read (a + 0x2000#16) = v ∧
    (b.write (a + 0x2000#16) v).read a = v ∧ (b.write (a + 0x2000#16) v).read (a + 0x2000#16) = v ∧
    b.write (a + 0x2000#16) v = b.write a v ∧
    ∀ x : Word, x ≠ a → x ≠ a + 0x2000#16 → (b.write a v).read x = b.read x

/-- A write to DIV or LY stores 0; to IF or IE the low five bits; to a palette register the byte, with its four slots
refreshed; and to external RAM, the unmirrored RAM tail or OAM the byte itself; no other address reads otherwise than
before (20_memory.md R75, R76, R80, R81, R82, R86). That the palette bytes are stored (R80), and that DIV, LY and the
palettes read back the stored byte (R65), is the spec's decision D12. -/
def Obligations.RegisterAndPlainWrites : Prop :=
  ∀ (b : Bus) (v : Byte), b.mem.wf →
    (b.write 0xFF04#16 v).read 0xFF04#16 = 0x00#8 ∧
    (b.write 0xFF44#16 v).read 0xFF44#16 = 0x00#8 ∧
    (b.write 0xFF0F#16 v).read 0xFF0F#16 = BitVec.ofNat 8 (v.toNat % 32) ∧
    (b.write 0xFFFF#16 v).read 0xFFFF#16 = BitVec.ofNat 8 (v.toNat % 32) ∧
    (∀ slots : PaletteSlots,
      slots = ⟨v.extractLsb' 0 2, v.extractLsb' 2 2, v.extractLsb' 4 2, v.extractLsb' 6 2⟩ →
      (b.write 0xFF47#16 v).read 0xFF47#16 = v ∧ (b.write 0xFF47#16 v).bgp = slots ∧
      (b.write 0xFF48#16 v).read 0xFF48#16 = v ∧ (b.write 0xFF48#16 v).obp0 = slots ∧
      (b.write 0xFF49#16 v).read 0xFF49#16 = v ∧ (b.write 0xFF49#16 v).obp1 = slots) ∧
    (∀ a : Word, (0xA000 ≤ a.toNat ∧ a.toNat ≤ 0xBFFF) ∨ (0xDE00 ≤ a.toNat ∧ a.toNat ≤ 0xDFFF) ∨
      (0xFE00 ≤ a.toNat ∧ a.toNat ≤ 0xFEFF) → (b.write a v).read a = v) ∧
    (∀ a x : Word, a ∈ [0xFF04#16, 0xFF44#16, 0xFF0F#16, 0xFFFF#16, 0xFF47#16, 0xFF48#16, 0xFF49#16] ∨
      (0xA000 ≤ a.toNat ∧ a.toNat ≤ 0xBFFF) ∨ (0xDE00 ≤ a.toNat ∧ a.toNat ≤ 0xDFFF) ∨
      (0xFE00 ≤ a.toNat ∧ a.toNat ≤ 0xFEFF) → x ≠ a → (b.write a v).read x = b.read x)

/-- Writes to P1, LCDC and STAT (the spec's decisions D22, D23, D12), to VRAM and to the plain bytes of the 0xFF00 page
(decision D12): P1 keeps its byte and the value goes out; LCDC stores the byte and refreshes its fields, and LY is
cleared exactly when bit 7 changes; STAT stores the byte and refreshes its fields; VRAM stores the byte and marks its
address (marks by address: log 13). -/
def Obligations.JoypadAndDisplayWrites : Prop :=
  ∀ (b : Bus) (v : Byte), b.mem.wf →
    b.write 0xFF00#16 v = { b with joypadOut := b.joypadOut ++ [v] } ∧
    (b.write 0xFF40#16 v).read 0xFF40#16 = v ∧
    (b.write 0xFF40#16 v).read 0xFF44#16 =
      (if (b.read 0xFF40#16).getLsbD 7 = v.getLsbD 7 then b.read 0xFF44#16 else 0x00#8) ∧
    (b.write 0xFF40#16 v).lcdc = ⟨v.getLsbD 7, v.getLsbD 6, v.getLsbD 5, v.getLsbD 4, v.getLsbD 3, v.getLsbD 2,
      v.getLsbD 1, v.getLsbD 0⟩ ∧
    (b.write 0xFF41#16 v).read 0xFF41#16 = v ∧
    (b.write 0xFF41#16 v).stat.lyCompareSelect = v.getLsbD 6 ∧
    (b.write 0xFF41#16 v).stat.mode2Select = v.getLsbD 5 ∧
    (b.write 0xFF41#16 v).stat.mode1Select = v.getLsbD 4 ∧
    (b.write 0xFF41#16 v).stat.mode0Select = v.getLsbD 3 ∧
    (b.write 0xFF41#16 v).stat.compareFlag = v.getLsbD 2 ∧
    (b.write 0xFF41#16 v).stat.mode =
      (match v.getLsbD 1, v.getLsbD 0 with
        | false, false => .mode0
        | false, true => .mode1
        | true, false => .mode2
        | true, true => .mode3) ∧
    (∀ a : Word, 0x8000 ≤ a.toNat → a.toNat ≤ 0x9FFF →
      (b.write a v).read a = v ∧ ∀ k, k ∈ (b.write a v).vramDirty ↔ k = a.toNat ∨ k ∈ b.vramDirty) ∧
    (∀ a : Word, 0xFF00 ≤ a.toNat → plainStorage a → (b.write a v).read a = v)

/-- The OAM copy (destination base and the stored trigger byte are the spec's decision D13): after a write of `v` to
0xFF46, OAM byte `i` reads as the byte at `v * 256 + i` read before it, but for a source byte that is the trigger register
itself, which reads `v`; the trigger reads `v`; every other byte reads as before. -/
def Obligations.OamCopy : Prop :=
  ∀ (b : Bus) (v : Byte), b.mem.wf →
    (∀ i : Nat, i < 160 →
      (b.write 0xFF46#16 v).read (BitVec.ofNat 16 (0xFE00 + i)) =
        (if v.toNat * 256 + i = 0xFF46 then v else b.read (BitVec.ofNat 16 (v.toNat * 256 + i)))) ∧
    (b.write 0xFF46#16 v).read 0xFF46#16 = v ∧
    (∀ x : Word, x.toNat ≠ 0xFF46 → x.toNat < 0xFE00 ∨ 0xFE9F < x.toNat → (b.write 0xFF46#16 v).read x = b.read x)

/-- The image, its size and the cartridge type are the same after any step. -/
def Obligations.CartridgeNeverChanges : Prop :=
  ∀ s t : State, step s = .next t →
    t.bus.rom = s.bus.rom ∧ t.bus.romSize = s.bus.romSize ∧ t.bus.cartType = s.bus.cartType

/-! ## Interrupts -/

/-- The check with IME = 1 and a pending enabled request: the lowest-numbered one is dispatched: IME and `halted` cleared,
its IF bit cleared, PC pushed high byte first, PC at `0x0040 + 8 * i`, nothing else (60_exceptions.md R328, R330, R331 to
R333). That the 20 cycles are the check's own output beside an unaltered `cycles` is the spec's decision D8 (R334; the
field is log 10). -/
def Obligations.InterruptDispatch : Prop :=
  ∀ (s : State) (i : Fin 5),
    let requested (j : Nat) : Prop :=
      (s.bus.mem.read 0xFFFF).getLsbD j = true ∧ (s.bus.mem.read 0xFF0F).getLsbD j = true
    let cleared : Bus :=
      { s.bus with mem := s.bus.mem.write 0xFF0F (s.bus.mem.read 0xFF0F &&& ~~~(BitVec.twoPow 8 i.val)) }
    s.ime = true → requested i.val → (∀ j : Nat, j < i.val → ¬ requested j) →
    s.interruptCheck = { s with
      ime := false
      halted := false
      sp := s.sp - 2#16
      pc := BitVec.ofNat 16 (0x0040 + 8 * i.val)
      bus := (cleared.write (s.sp - 1#16) (s.pc.extractLsb' 8 8)).write (s.sp - 2#16) (s.pc.extractLsb' 0 8)
      dispatchCycles := some 20 }

/-- The check without a dispatch, and the halt exit: with no enabled request the check changes nothing; with one it clears
`halted` whatever IME is (60_exceptions.md R329), and with IME = 0 it does nothing else (R328, R330). That it reports 0
cycles then is the spec's decision D8 (R334; the field is log 10). -/
def Obligations.HaltExit : Prop :=
  ∀ s : State,
    let requested (j : Nat) : Prop :=
      (s.bus.mem.read 0xFFFF).getLsbD j = true ∧ (s.bus.mem.read 0xFF0F).getLsbD j = true
    ((∀ j : Nat, j < 5 → ¬ requested j) → s.interruptCheck = { s with dispatchCycles := some 0 }) ∧
    ((∃ j : Nat, j < 5 ∧ requested j) → s.interruptCheck.halted = false) ∧
    (s.ime = false → (∃ j : Nat, j < 5 ∧ requested j) →
      s.interruptCheck = { s with halted := false, dispatchCycles := some 0 })

/-- A second check right after any check dispatches nothing and changes nothing but the reported cycle count, which is 0
(the spec's derived rule of one dispatch per boundary; counts by its decision D8, log 10): and the first reports 20
exactly when it dispatched. -/
def Obligations.OneDispatchPerBoundary : Prop :=
  ∀ s : State,
    (s.interruptCheck.dispatchCycles = some 20 ↔ s.ime = true ∧ s.interruptCheck.ime = false) ∧
    s.interruptCheck.interruptCheck = { s.interruptCheck with dispatchCycles := some 0 }

/-! ## The environment, reset and the invariant -/

/-- What an environment move can reach (that it moves at boundaries only is the spec's decision D14; where its moves come
from is log 4): no register, flag or run-state bit, no byte outside 0xFF00..0xFF7F, no bank state; of IF it
only sets bits 0 to 4. -/
def Obligations.EnvironmentReach : Prop :=
  ∀ s : State, s.bus.mem.wf →
    let t := s.environmentTurn
    (∀ r, t.getReg8 r = s.getReg8 r) ∧ t.flags = s.flags ∧ t.sp = s.sp ∧ t.pc = s.pc ∧ t.ime = s.ime ∧
    t.halted = s.halted ∧ t.stopped = s.stopped ∧ t.fault = s.fault ∧ t.bus.romBank = s.bus.romBank ∧
    t.bus.mbc1Mode = s.bus.mbc1Mode ∧ t.bus.cartType = s.bus.cartType ∧
    (∀ a : Word, a.toNat < 0xFF00 ∨ 0xFF7F < a.toNat → t.read a = s.read a) ∧
    (∀ j : Nat, (s.read 0xFF0F#16).getLsbD j = true → (t.read 0xFF0F#16).getLsbD j = true) ∧
    (∀ j : Nat, 5 ≤ j → (t.read 0xFF0F#16).getLsbD j = (s.read 0xFF0F#16).getLsbD j)

/-- The environment moves at every boundary, for ever (00_scope.md R15, the spec's decision D14; the form is log 4): the next
given move, if one is left; else the moves of the cycle, which start over when they are spent and which no step changes;
and where there is no cycle, some move that nothing constrains, and again one at the next boundary. -/
def Obligations.EnvironmentNeverRunsOut : Prop :=
  ∀ s : State,
    (∀ (mv : EnvMove) (rest : List EnvMove), s.env = mv :: rest →
      s.environmentTurn = { s.applyEnv mv with env := rest }) ∧
    (∀ (mv : EnvMove) (rest : List EnvMove), s.env = [] → s.envCycle = mv :: rest →
      s.environmentTurn = { s.applyEnv mv with env := rest }) ∧
    (s.env = [] → s.envCycle = [] → ∃ mv : EnvMove, s.environmentTurn = { s.applyEnv mv with env := [] }) ∧
    (∀ t, step s = .next t → t.envCycle = s.envCycle)

/-- The cartridge load: every register at its power-up value, IME, the run state, IF and IE clear, bank 1, the image and
RESET_MEM as given; an unsupported type byte gives a faulted state; an image of a wrong size gives none (IME, IF, IE,
the run state and the bank state are the spec's decisions). -/
def Obligations.CartridgeLoad : Prop :=
  ∀ (c : Cartridge) (resetMem : Memory) (env envCycle : List EnvMove),
    (¬ c.sizeOk → State.load c resetMem env envCycle = none) ∧
    (c.sizeOk → ∃ s, State.load c resetMem env envCycle = some s ∧ s.env = env ∧ s.envCycle = envCycle ∧
      s.a = 0x01#8 ∧ s.f = 0xB0#8 ∧ s.bc = 0x0013#16 ∧ s.de = 0x00D8#16 ∧ s.hl = 0x014D#16 ∧ s.sp = 0xFFFE#16 ∧
      s.pc = 0x0100#16 ∧ s.ime = false ∧ s.halted = false ∧ s.stopped = false ∧
      s.read 0xFFFF#16 = 0x00#8 ∧ s.read 0xFF0F#16 = 0x00#8 ∧ s.bus.romBank = 1#5 ∧ s.bus.mbc1Mode = false ∧
      (c.typeByte = 0x00#8 → s.fault = none ∧ s.bus.cartType = .none) ∧
      (c.typeByte = 0x01#8 → s.fault = none ∧ s.bus.cartType = .mbc1) ∧
      (c.typeByte ≠ 0x00#8 → c.typeByte ≠ 0x01#8 →
        s.fault = some ⟨.unsupportedCartridgeType, 0x0147#16, c.typeByte⟩) ∧
      (∀ a : Word, a.toNat < 0x8000 → s.read a = c.bytes.read a.toNat) ∧
      (∀ a : Word, 0x8000 ≤ a.toNat → a.toNat ≠ 0xFFFF → a.toNat ≠ 0xFF0F →
        s.read a = resetMem.read (storageKey a)))

/-- The invariant holds in the reset state and in every loaded state. -/
def Obligations.InitialStatesMeetInvariant : Prop :=
  State.reset.Ok ∧
    ∀ (c : Cartridge) (resetMem : Memory) (env envCycle : List EnvMove) (s : State),
      State.load c resetMem env envCycle = some s → s.Ok

/-- Every step keeps the invariant: storage canonical and at existing addresses, the image's size legal, the bank number
never 0, bits 7:5 of IE and IF zero, the dirty marks a set of VRAM addresses, one run state at a time, and `halted`
only with IME = 1. -/
def Obligations.StepKeepsInvariant : Prop :=
  ∀ s t : State, s.Ok → step s = .next t → t.Ok

/-- Outputs and unread state influence nothing inside the block: from a state with the cycle counts, the MBC1 mode bit, the
display copies, the dirty marks and the joypad output blanked, a step goes where the step of the state itself goes, up to
the same blanking. The environment does see the outputs, and a free move of it may depend on them (log 4): so its two
moves of the step are given ones, from `env` or from the cycle. -/
def Obligations.OutputsAreNeverRead : Prop :=
  ∀ s t : State, 2 ≤ s.env.length ∨ s.envCycle ≠ [] → step s = .next t →
    ∃ t', step s.blind = .next t' ∧ t'.blind = t.blind

/-- The model's placing of an instruction (log 14): in a state that meets the invariant, the next fetch reads exactly the
placed bytes, and the step does not stop. -/
def Obligations.PlacedBytesAreFetched : Prop :=
  ∀ (s : State) (b0 b1 b2 : Byte), s.Ok →
    (s.withBytesAtPc b0 b1 b2).beginStep.fetchInstr = decodeBytes b0 b1 b2 ∧ (s.withBytesAtPc b0 b1 b2).StepsSafely

end Statements
end

