-- ==== Sys2Proof/Laws/Memory.lean ====
section
/-! SUPPORT. Laws of the byte storage: what a read sees after a write, and that every operation keeps the canonical
form. -/

namespace Sys2Proof.Machine

@[simp] theorem Memory.read_nil (k : Nat) : Memory.read [] k = Memory.unlisted := rfl

theorem Memory.wf_nil : Memory.wf [] := by simp [Memory.wf]

theorem Memory.wf_tail {x : Host.Cell} {m : Memory} (h : Memory.wf (x :: m)) : Memory.wf m :=
  ⟨(List.pairwise_cons.1 h.1).2, fun y hy => h.2 y (List.mem_cons_of_mem _ hy)⟩

/-- An address below every listed one reads as an unlisted address does. -/
theorem Memory.read_of_forall_ne (m : Memory) (k : Nat) (h : ∀ x ∈ m, x.1 ≠ k) : m.read k = Memory.unlisted := by
  induction m with
  | nil => rfl
  | cons x m ih =>
    simp only [Memory.read]
    rw [if_neg (h x (by simp))]
    exact ih fun y hy => h y (List.mem_cons_of_mem _ hy)

/-- A key listed after a write was listed before it, or is the key written. -/
theorem Memory.mem_write {m : Memory} {k : Nat} {v : Byte} {x : Host.Cell} (h : x ∈ m.write k v) :
    x ∈ m ∨ (x = (k, v) ∧ v ≠ Memory.unlisted) := by
  induction m with
  | nil =>
    simp only [Memory.write] at h
    split at h <;> simp_all
  | cons y m ih =>
    simp only [Memory.write] at h
    split at h
    · split at h <;> simp_all
      tauto
    · split at h
      · split at h <;> simp_all
        tauto
      · simp only [List.mem_cons] at h ⊢
        rcases h with h | h
        · exact .inl (.inl h)
        · rcases ih h with h | h
          · exact .inl (.inr h)
          · exact .inr h

/-- A write keeps the canonical form. -/
theorem Memory.wf_write {m : Memory} (hm : m.wf) (k : Nat) (v : Byte) : Memory.wf (m.write k v) := by
  refine ⟨?_, fun x hx => ?_⟩
  · induction m with
    | nil => simp only [Memory.write]; split <;> simp
    | cons y m ih =>
      have hp := List.pairwise_cons.1 hm.1
      simp only [Memory.write]
      split
      · split
        · exact hm.1
        · refine List.pairwise_cons.2 ⟨fun z hz => ?_, hm.1⟩
          simp only [List.mem_cons] at hz
          rcases hz with rfl | hz
          · assumption
          · have := hp.1 z hz; simp only at *; omega
      · split
        · split
          · exact hp.2
          · refine List.pairwise_cons.2 ⟨fun z hz => ?_, hp.2⟩
            have := hp.1 z hz; simp only at *; omega
        · refine List.pairwise_cons.2 ⟨fun z hz => ?_, ih (Memory.wf_tail hm)⟩
          rcases Memory.mem_write hz with h | ⟨rfl, -⟩
          · exact hp.1 z h
          · simp only at *; omega
  · rcases Memory.mem_write hx with h | ⟨rfl, hv⟩
    · exact hm.2 x h
    · exact hv

/-- A write leaves every other address alone (canonical form or not). -/
@[simp] theorem Memory.read_write_of_ne (m : Memory) {k j : Nat} (v : Byte) (h : j ≠ k) :
    (m.write k v).read j = m.read j := by
  induction m with
  | nil => simp only [Memory.write]; split <;> simp [Memory.read, h.symm]
  | cons y m ih =>
    simp only [Memory.write]
    split
    · split <;> simp [Memory.read, h.symm]
    · split
      · rename_i hk
        split <;> simp [Memory.read, h.symm, ← hk]
      · simp [Memory.read, ih]

/-- A read after a write to the same address gives the byte written. -/
theorem Memory.read_write_self {m : Memory} (hm : m.wf) (k : Nat) (v : Byte) : (m.write k v).read k = v := by
  induction m with
  | nil => simp only [Memory.write]; split <;> simp_all [Memory.read]
  | cons y m ih =>
    have hp := List.pairwise_cons.1 hm.1
    simp only [Memory.write]
    split
    · split
      · rename_i hk hv
        rw [hv]
        refine Memory.read_of_forall_ne _ _ fun z hz => ?_
        simp only [List.mem_cons] at hz
        rcases hz with rfl | hz
        · omega
        · have := hp.1 z hz; omega
      · simp [Memory.read]
    · split
      · split
        · rename_i hk hv
          rw [hv]
          refine Memory.read_of_forall_ne _ _ fun z hz => ?_
          have := hp.1 z hz; omega
        · simp [Memory.read]
      · rename_i h1 h2
        simp only [Memory.read]
        rw [if_neg (by omega)]
        exact ih (Memory.wf_tail hm)

/-- A read after a write, at any address. -/
theorem Memory.read_write {m : Memory} (hm : m.wf) (k j : Nat) (v : Byte) :
    (m.write k v).read j = if j = k then v else m.read j := by
  split
  · subst j; exact Memory.read_write_self hm k v
  · exact Memory.read_write_of_ne m v ‹_›

/-- Two canonical memories that read alike everywhere are one memory. -/
theorem Memory.ext {m m' : Memory} (h : m.wf) (h' : m'.wf) (hr : ∀ k, m.read k = m'.read k) : m = m' := by
  induction m generalizing m' with
  | nil =>
    cases m' with
    | nil => rfl
    | cons x m' =>
      have := hr x.1
      simp only [Memory.read, if_true] at this
      exact absurd this.symm (h'.2 x (by simp))
  | cons x m ih =>
    cases m' with
    | nil =>
      have := hr x.1
      simp only [Memory.read, if_true] at this
      exact absurd this (h.2 x (by simp))
    | cons y m' =>
      have hp := List.pairwise_cons.1 h.1
      have hp' := List.pairwise_cons.1 h'.1
      have key : x.1 = y.1 := by
        rcases Nat.lt_trichotomy x.1 y.1 with hlt | heq | hlt
        · exfalso
          have e := hr x.1
          rw [Memory.read_of_forall_ne (y :: m') x.1 (fun z hz => by
            simp only [List.mem_cons] at hz
            rcases hz with rfl | hz
            · omega
            · have := hp'.1 z hz; omega)] at e
          simp only [Memory.read, if_true] at e
          exact h.2 x (by simp) e
        · exact heq
        · exfalso
          have e := hr y.1
          rw [Memory.read_of_forall_ne (x :: m) y.1 (fun z hz => by
            simp only [List.mem_cons] at hz
            rcases hz with rfl | hz
            · omega
            · have := hp.1 z hz; omega)] at e
          simp only [Memory.read, if_true] at e
          exact h'.2 y (by simp) e.symm
      have val : x.2 = y.2 := by
        have e := hr x.1
        simp only [Memory.read, if_true, key] at e
        exact e
      have hxy : x = y := Prod.ext key val
      subst hxy
      congr 1
      refine ih (Memory.wf_tail h) (Memory.wf_tail h') fun k => ?_
      by_cases hk : x.1 = k
      · subst hk
        rw [Memory.read_of_forall_ne m _ fun z hz => by have := hp.1 z hz; omega,
          Memory.read_of_forall_ne m' _ fun z hz => by have := hp'.1 z hz; omega]
      · have e := hr k
        simpa only [Memory.read, if_neg hk] using e

/-- The cells kept by a test are canonical. -/
theorem wf_cellsWhere (keep : Nat → Bool) (m : Memory) : Memory.wf (cellsWhere keep m) := by
  induction m with
  | nil => exact Memory.wf_nil
  | cons x m ih => simp only [cellsWhere]; split <;> [exact Memory.wf_write ih _ _; exact ih]

/-- Every cell kept passes the test. -/
theorem mem_cellsWhere {keep : Nat → Bool} {m : Memory} {x : Host.Cell} (h : x ∈ cellsWhere keep m) :
    keep x.1 = true := by
  induction m with
  | nil => simp [cellsWhere] at h
  | cons y m ih =>
    simp only [cellsWhere] at h
    split at h
    · rcases Memory.mem_write h with h | ⟨rfl, -⟩
      · exact ih h
      · assumption
    · exact ih h

/-- What the cells kept by a test read as. -/
theorem read_cellsWhere (keep : Nat → Bool) (m : Memory) (k : Nat) :
    (cellsWhere keep m).read k = if keep k then m.read k else Memory.unlisted := by
  induction m with
  | nil => simp [cellsWhere]
  | cons x m ih =>
    simp only [cellsWhere, Memory.read]
    split
    · rw [Memory.read_write (wf_cellsWhere keep m)]
      split
      · rename_i hx hk
        subst hk; simp [hx]
      · rename_i hk
        rw [ih, if_neg (Ne.symm hk)]
    · rename_i hx
      rw [ih]
      by_cases hk : x.1 = k
      · subst hk; simp [hx]
      · simp [hk]

/-- A set of rising addresses stays one when an address is added. -/
theorem insertAddress_mem {k j : Nat} {l : List Nat} : j ∈ insertAddress k l ↔ j = k ∨ j ∈ l := by
  induction l with
  | nil => simp [insertAddress]
  | cons x l ih =>
    simp only [insertAddress]
    split
    · simp
    · split
      · subst k; simp
      · simp [ih]; tauto

theorem insertAddress_rising {k : Nat} {l : List Nat} (h : l.Pairwise (· < ·)) :
    (insertAddress k l).Pairwise (· < ·) := by
  induction l with
  | nil => simp [insertAddress]
  | cons x l ih =>
    have hp := List.pairwise_cons.1 h
    simp only [insertAddress]
    split
    · refine List.pairwise_cons.2 ⟨fun z hz => ?_, h⟩
      simp only [List.mem_cons] at hz
      rcases hz with rfl | hz
      · assumption
      · have := hp.1 z hz; omega
    · split
      · exact h
      · refine List.pairwise_cons.2 ⟨fun z hz => ?_, ih hp.2⟩
        rcases insertAddress_mem.1 hz with rfl | hz
        · omega
        · exact hp.1 z hz

end Sys2Proof.Machine
end

