-- ==== Sys2Proof/Laws/State.lean ====
section
/-! SUPPORT. One lemma for each field after each update, so that no later proof unfolds a record update. -/

namespace Sys2Proof.Machine

/-! ## `tick` -/

@[simp] theorem State.tick_a (s : State) (n : Nat) : (s.tick n).a = s.a := rfl
@[simp] theorem State.tick_b (s : State) (n : Nat) : (s.tick n).b = s.b := rfl
@[simp] theorem State.tick_c (s : State) (n : Nat) : (s.tick n).c = s.c := rfl
@[simp] theorem State.tick_d (s : State) (n : Nat) : (s.tick n).d = s.d := rfl
@[simp] theorem State.tick_e (s : State) (n : Nat) : (s.tick n).e = s.e := rfl
@[simp] theorem State.tick_hl (s : State) (n : Nat) : (s.tick n).hl = s.hl := rfl
@[simp] theorem State.tick_fZ (s : State) (n : Nat) : (s.tick n).fZ = s.fZ := rfl
@[simp] theorem State.tick_fN (s : State) (n : Nat) : (s.tick n).fN = s.fN := rfl
@[simp] theorem State.tick_fH (s : State) (n : Nat) : (s.tick n).fH = s.fH := rfl
@[simp] theorem State.tick_fC (s : State) (n : Nat) : (s.tick n).fC = s.fC := rfl
@[simp] theorem State.tick_sp (s : State) (n : Nat) : (s.tick n).sp = s.sp := rfl
@[simp] theorem State.tick_pc (s : State) (n : Nat) : (s.tick n).pc = s.pc := rfl
@[simp] theorem State.tick_ime (s : State) (n : Nat) : (s.tick n).ime = s.ime := rfl
@[simp] theorem State.tick_halted (s : State) (n : Nat) : (s.tick n).halted = s.halted := rfl
@[simp] theorem State.tick_stopped (s : State) (n : Nat) : (s.tick n).stopped = s.stopped := rfl
@[simp] theorem State.tick_fault (s : State) (n : Nat) : (s.tick n).fault = s.fault := rfl
@[simp] theorem State.tick_cycles (s : State) (n : Nat) : (s.tick n).cycles = some n := rfl
@[simp] theorem State.tick_dispatchCycles (s : State) (n : Nat) : (s.tick n).dispatchCycles = s.dispatchCycles := rfl
@[simp] theorem State.tick_bus (s : State) (n : Nat) : (s.tick n).bus = s.bus := rfl
@[simp] theorem State.tick_env (s : State) (n : Nat) : (s.tick n).env = s.env := rfl
@[simp] theorem State.tick_envCycle (s : State) (n : Nat) : (s.tick n).envCycle = s.envCycle := rfl

/-! ## `setPc` -/

@[simp] theorem State.setPc_a (s : State) (t : Word) : (s.setPc t).a = s.a := rfl
@[simp] theorem State.setPc_b (s : State) (t : Word) : (s.setPc t).b = s.b := rfl
@[simp] theorem State.setPc_c (s : State) (t : Word) : (s.setPc t).c = s.c := rfl
@[simp] theorem State.setPc_d (s : State) (t : Word) : (s.setPc t).d = s.d := rfl
@[simp] theorem State.setPc_e (s : State) (t : Word) : (s.setPc t).e = s.e := rfl
@[simp] theorem State.setPc_hl (s : State) (t : Word) : (s.setPc t).hl = s.hl := rfl
@[simp] theorem State.setPc_fZ (s : State) (t : Word) : (s.setPc t).fZ = s.fZ := rfl
@[simp] theorem State.setPc_fN (s : State) (t : Word) : (s.setPc t).fN = s.fN := rfl
@[simp] theorem State.setPc_fH (s : State) (t : Word) : (s.setPc t).fH = s.fH := rfl
@[simp] theorem State.setPc_fC (s : State) (t : Word) : (s.setPc t).fC = s.fC := rfl
@[simp] theorem State.setPc_sp (s : State) (t : Word) : (s.setPc t).sp = s.sp := rfl
@[simp] theorem State.setPc_pc (s : State) (t : Word) : (s.setPc t).pc = t := rfl
@[simp] theorem State.setPc_ime (s : State) (t : Word) : (s.setPc t).ime = s.ime := rfl
@[simp] theorem State.setPc_halted (s : State) (t : Word) : (s.setPc t).halted = s.halted := rfl
@[simp] theorem State.setPc_stopped (s : State) (t : Word) : (s.setPc t).stopped = s.stopped := rfl
@[simp] theorem State.setPc_fault (s : State) (t : Word) : (s.setPc t).fault = s.fault := rfl
@[simp] theorem State.setPc_cycles (s : State) (t : Word) : (s.setPc t).cycles = s.cycles := rfl
@[simp] theorem State.setPc_dispatchCycles (s : State) (t : Word) : (s.setPc t).dispatchCycles = s.dispatchCycles := rfl
@[simp] theorem State.setPc_bus (s : State) (t : Word) : (s.setPc t).bus = s.bus := rfl
@[simp] theorem State.setPc_env (s : State) (t : Word) : (s.setPc t).env = s.env := rfl
@[simp] theorem State.setPc_envCycle (s : State) (t : Word) : (s.setPc t).envCycle = s.envCycle := rfl

/-! ## `write` -/

@[simp] theorem State.write_a (s : State) (x : Word) (v : Byte) : (s.write x v).a = s.a := rfl
@[simp] theorem State.write_b (s : State) (x : Word) (v : Byte) : (s.write x v).b = s.b := rfl
@[simp] theorem State.write_c (s : State) (x : Word) (v : Byte) : (s.write x v).c = s.c := rfl
@[simp] theorem State.write_d (s : State) (x : Word) (v : Byte) : (s.write x v).d = s.d := rfl
@[simp] theorem State.write_e (s : State) (x : Word) (v : Byte) : (s.write x v).e = s.e := rfl
@[simp] theorem State.write_hl (s : State) (x : Word) (v : Byte) : (s.write x v).hl = s.hl := rfl
@[simp] theorem State.write_fZ (s : State) (x : Word) (v : Byte) : (s.write x v).fZ = s.fZ := rfl
@[simp] theorem State.write_fN (s : State) (x : Word) (v : Byte) : (s.write x v).fN = s.fN := rfl
@[simp] theorem State.write_fH (s : State) (x : Word) (v : Byte) : (s.write x v).fH = s.fH := rfl
@[simp] theorem State.write_fC (s : State) (x : Word) (v : Byte) : (s.write x v).fC = s.fC := rfl
@[simp] theorem State.write_sp (s : State) (x : Word) (v : Byte) : (s.write x v).sp = s.sp := rfl
@[simp] theorem State.write_pc (s : State) (x : Word) (v : Byte) : (s.write x v).pc = s.pc := rfl
@[simp] theorem State.write_ime (s : State) (x : Word) (v : Byte) : (s.write x v).ime = s.ime := rfl
@[simp] theorem State.write_halted (s : State) (x : Word) (v : Byte) : (s.write x v).halted = s.halted := rfl
@[simp] theorem State.write_stopped (s : State) (x : Word) (v : Byte) : (s.write x v).stopped = s.stopped := rfl
@[simp] theorem State.write_fault (s : State) (x : Word) (v : Byte) : (s.write x v).fault = s.fault := rfl
@[simp] theorem State.write_cycles (s : State) (x : Word) (v : Byte) : (s.write x v).cycles = s.cycles := rfl
@[simp] theorem State.write_dispatchCycles (s : State) (x : Word) (v : Byte) : (s.write x v).dispatchCycles = s.dispatchCycles := rfl
@[simp] theorem State.write_bus (s : State) (x : Word) (v : Byte) : (s.write x v).bus = s.bus.write x v := rfl
@[simp] theorem State.write_env (s : State) (x : Word) (v : Byte) : (s.write x v).env = s.env := rfl
@[simp] theorem State.write_envCycle (s : State) (x : Word) (v : Byte) : (s.write x v).envCycle = s.envCycle := rfl

/-! ## `write16` -/

@[simp] theorem State.write16_a (s : State) (x : Word) (v : Word) : (s.write16 x v).a = s.a := rfl
@[simp] theorem State.write16_b (s : State) (x : Word) (v : Word) : (s.write16 x v).b = s.b := rfl
@[simp] theorem State.write16_c (s : State) (x : Word) (v : Word) : (s.write16 x v).c = s.c := rfl
@[simp] theorem State.write16_d (s : State) (x : Word) (v : Word) : (s.write16 x v).d = s.d := rfl
@[simp] theorem State.write16_e (s : State) (x : Word) (v : Word) : (s.write16 x v).e = s.e := rfl
@[simp] theorem State.write16_hl (s : State) (x : Word) (v : Word) : (s.write16 x v).hl = s.hl := rfl
@[simp] theorem State.write16_fZ (s : State) (x : Word) (v : Word) : (s.write16 x v).fZ = s.fZ := rfl
@[simp] theorem State.write16_fN (s : State) (x : Word) (v : Word) : (s.write16 x v).fN = s.fN := rfl
@[simp] theorem State.write16_fH (s : State) (x : Word) (v : Word) : (s.write16 x v).fH = s.fH := rfl
@[simp] theorem State.write16_fC (s : State) (x : Word) (v : Word) : (s.write16 x v).fC = s.fC := rfl
@[simp] theorem State.write16_sp (s : State) (x : Word) (v : Word) : (s.write16 x v).sp = s.sp := rfl
@[simp] theorem State.write16_pc (s : State) (x : Word) (v : Word) : (s.write16 x v).pc = s.pc := rfl
@[simp] theorem State.write16_ime (s : State) (x : Word) (v : Word) : (s.write16 x v).ime = s.ime := rfl
@[simp] theorem State.write16_halted (s : State) (x : Word) (v : Word) : (s.write16 x v).halted = s.halted := rfl
@[simp] theorem State.write16_stopped (s : State) (x : Word) (v : Word) : (s.write16 x v).stopped = s.stopped := rfl
@[simp] theorem State.write16_fault (s : State) (x : Word) (v : Word) : (s.write16 x v).fault = s.fault := rfl
@[simp] theorem State.write16_cycles (s : State) (x : Word) (v : Word) : (s.write16 x v).cycles = s.cycles := rfl
@[simp] theorem State.write16_dispatchCycles (s : State) (x : Word) (v : Word) : (s.write16 x v).dispatchCycles = s.dispatchCycles := rfl
@[simp] theorem State.write16_bus (s : State) (x : Word) (v : Word) : (s.write16 x v).bus = (s.bus.write x (loByte v)).write (x + 1#16) (hiByte v) := rfl
@[simp] theorem State.write16_env (s : State) (x : Word) (v : Word) : (s.write16 x v).env = s.env := rfl
@[simp] theorem State.write16_envCycle (s : State) (x : Word) (v : Word) : (s.write16 x v).envCycle = s.envCycle := rfl

/-! ## `setFlags` -/

@[simp] theorem State.setFlags_a (s : State) (g : Flags) : (s.setFlags g).a = s.a := rfl
@[simp] theorem State.setFlags_b (s : State) (g : Flags) : (s.setFlags g).b = s.b := rfl
@[simp] theorem State.setFlags_c (s : State) (g : Flags) : (s.setFlags g).c = s.c := rfl
@[simp] theorem State.setFlags_d (s : State) (g : Flags) : (s.setFlags g).d = s.d := rfl
@[simp] theorem State.setFlags_e (s : State) (g : Flags) : (s.setFlags g).e = s.e := rfl
@[simp] theorem State.setFlags_hl (s : State) (g : Flags) : (s.setFlags g).hl = s.hl := rfl
@[simp] theorem State.setFlags_fZ (s : State) (g : Flags) : (s.setFlags g).fZ = g.z := rfl
@[simp] theorem State.setFlags_fN (s : State) (g : Flags) : (s.setFlags g).fN = g.n := rfl
@[simp] theorem State.setFlags_fH (s : State) (g : Flags) : (s.setFlags g).fH = g.h := rfl
@[simp] theorem State.setFlags_fC (s : State) (g : Flags) : (s.setFlags g).fC = g.c := rfl
@[simp] theorem State.setFlags_sp (s : State) (g : Flags) : (s.setFlags g).sp = s.sp := rfl
@[simp] theorem State.setFlags_pc (s : State) (g : Flags) : (s.setFlags g).pc = s.pc := rfl
@[simp] theorem State.setFlags_ime (s : State) (g : Flags) : (s.setFlags g).ime = s.ime := rfl
@[simp] theorem State.setFlags_halted (s : State) (g : Flags) : (s.setFlags g).halted = s.halted := rfl
@[simp] theorem State.setFlags_stopped (s : State) (g : Flags) : (s.setFlags g).stopped = s.stopped := rfl
@[simp] theorem State.setFlags_fault (s : State) (g : Flags) : (s.setFlags g).fault = s.fault := rfl
@[simp] theorem State.setFlags_cycles (s : State) (g : Flags) : (s.setFlags g).cycles = s.cycles := rfl
@[simp] theorem State.setFlags_dispatchCycles (s : State) (g : Flags) : (s.setFlags g).dispatchCycles = s.dispatchCycles := rfl
@[simp] theorem State.setFlags_bus (s : State) (g : Flags) : (s.setFlags g).bus = s.bus := rfl
@[simp] theorem State.setFlags_env (s : State) (g : Flags) : (s.setFlags g).env = s.env := rfl
@[simp] theorem State.setFlags_envCycle (s : State) (g : Flags) : (s.setFlags g).envCycle = s.envCycle := rfl

/-! ## `popSp` -/

@[simp] theorem State.popSp_a (s : State) : (s.popSp).a = s.a := rfl
@[simp] theorem State.popSp_b (s : State) : (s.popSp).b = s.b := rfl
@[simp] theorem State.popSp_c (s : State) : (s.popSp).c = s.c := rfl
@[simp] theorem State.popSp_d (s : State) : (s.popSp).d = s.d := rfl
@[simp] theorem State.popSp_e (s : State) : (s.popSp).e = s.e := rfl
@[simp] theorem State.popSp_hl (s : State) : (s.popSp).hl = s.hl := rfl
@[simp] theorem State.popSp_fZ (s : State) : (s.popSp).fZ = s.fZ := rfl
@[simp] theorem State.popSp_fN (s : State) : (s.popSp).fN = s.fN := rfl
@[simp] theorem State.popSp_fH (s : State) : (s.popSp).fH = s.fH := rfl
@[simp] theorem State.popSp_fC (s : State) : (s.popSp).fC = s.fC := rfl
@[simp] theorem State.popSp_sp (s : State) : (s.popSp).sp = s.sp + 2#16 := rfl
@[simp] theorem State.popSp_pc (s : State) : (s.popSp).pc = s.pc := rfl
@[simp] theorem State.popSp_ime (s : State) : (s.popSp).ime = s.ime := rfl
@[simp] theorem State.popSp_halted (s : State) : (s.popSp).halted = s.halted := rfl
@[simp] theorem State.popSp_stopped (s : State) : (s.popSp).stopped = s.stopped := rfl
@[simp] theorem State.popSp_fault (s : State) : (s.popSp).fault = s.fault := rfl
@[simp] theorem State.popSp_cycles (s : State) : (s.popSp).cycles = s.cycles := rfl
@[simp] theorem State.popSp_dispatchCycles (s : State) : (s.popSp).dispatchCycles = s.dispatchCycles := rfl
@[simp] theorem State.popSp_bus (s : State) : (s.popSp).bus = s.bus := rfl
@[simp] theorem State.popSp_env (s : State) : (s.popSp).env = s.env := rfl
@[simp] theorem State.popSp_envCycle (s : State) : (s.popSp).envCycle = s.envCycle := rfl

/-! ## `freshReads` -/

@[simp] theorem State.freshReads_a (s : State) : (s.freshReads).a = s.a := rfl
@[simp] theorem State.freshReads_b (s : State) : (s.freshReads).b = s.b := rfl
@[simp] theorem State.freshReads_c (s : State) : (s.freshReads).c = s.c := rfl
@[simp] theorem State.freshReads_d (s : State) : (s.freshReads).d = s.d := rfl
@[simp] theorem State.freshReads_e (s : State) : (s.freshReads).e = s.e := rfl
@[simp] theorem State.freshReads_hl (s : State) : (s.freshReads).hl = s.hl := rfl
@[simp] theorem State.freshReads_fZ (s : State) : (s.freshReads).fZ = s.fZ := rfl
@[simp] theorem State.freshReads_fN (s : State) : (s.freshReads).fN = s.fN := rfl
@[simp] theorem State.freshReads_fH (s : State) : (s.freshReads).fH = s.fH := rfl
@[simp] theorem State.freshReads_fC (s : State) : (s.freshReads).fC = s.fC := rfl
@[simp] theorem State.freshReads_sp (s : State) : (s.freshReads).sp = s.sp := rfl
@[simp] theorem State.freshReads_pc (s : State) : (s.freshReads).pc = s.pc := rfl
@[simp] theorem State.freshReads_ime (s : State) : (s.freshReads).ime = s.ime := rfl
@[simp] theorem State.freshReads_halted (s : State) : (s.freshReads).halted = s.halted := rfl
@[simp] theorem State.freshReads_stopped (s : State) : (s.freshReads).stopped = s.stopped := rfl
@[simp] theorem State.freshReads_fault (s : State) : (s.freshReads).fault = s.fault := rfl
@[simp] theorem State.freshReads_cycles (s : State) : (s.freshReads).cycles = s.cycles := rfl
@[simp] theorem State.freshReads_dispatchCycles (s : State) : (s.freshReads).dispatchCycles = s.dispatchCycles := rfl
@[simp] theorem State.freshReads_bus (s : State) : (s.freshReads).bus = { s.bus with freeReads := s.bus.freeReads + 1 } := rfl
@[simp] theorem State.freshReads_env (s : State) : (s.freshReads).env = s.env := rfl
@[simp] theorem State.freshReads_envCycle (s : State) : (s.freshReads).envCycle = s.envCycle := rfl

/-! ## `raiseFault` -/

@[simp] theorem State.raiseFault_a (s : State) (k : FaultKind) (p : Word) (v : Byte) : (s.raiseFault k p v).a = s.a := rfl
@[simp] theorem State.raiseFault_b (s : State) (k : FaultKind) (p : Word) (v : Byte) : (s.raiseFault k p v).b = s.b := rfl
@[simp] theorem State.raiseFault_c (s : State) (k : FaultKind) (p : Word) (v : Byte) : (s.raiseFault k p v).c = s.c := rfl
@[simp] theorem State.raiseFault_d (s : State) (k : FaultKind) (p : Word) (v : Byte) : (s.raiseFault k p v).d = s.d := rfl
@[simp] theorem State.raiseFault_e (s : State) (k : FaultKind) (p : Word) (v : Byte) : (s.raiseFault k p v).e = s.e := rfl
@[simp] theorem State.raiseFault_hl (s : State) (k : FaultKind) (p : Word) (v : Byte) : (s.raiseFault k p v).hl = s.hl := rfl
@[simp] theorem State.raiseFault_fZ (s : State) (k : FaultKind) (p : Word) (v : Byte) : (s.raiseFault k p v).fZ = s.fZ := rfl
@[simp] theorem State.raiseFault_fN (s : State) (k : FaultKind) (p : Word) (v : Byte) : (s.raiseFault k p v).fN = s.fN := rfl
@[simp] theorem State.raiseFault_fH (s : State) (k : FaultKind) (p : Word) (v : Byte) : (s.raiseFault k p v).fH = s.fH := rfl
@[simp] theorem State.raiseFault_fC (s : State) (k : FaultKind) (p : Word) (v : Byte) : (s.raiseFault k p v).fC = s.fC := rfl
@[simp] theorem State.raiseFault_sp (s : State) (k : FaultKind) (p : Word) (v : Byte) : (s.raiseFault k p v).sp = s.sp := rfl
@[simp] theorem State.raiseFault_pc (s : State) (k : FaultKind) (p : Word) (v : Byte) : (s.raiseFault k p v).pc = s.pc := rfl
@[simp] theorem State.raiseFault_ime (s : State) (k : FaultKind) (p : Word) (v : Byte) : (s.raiseFault k p v).ime = s.ime := rfl
@[simp] theorem State.raiseFault_halted (s : State) (k : FaultKind) (p : Word) (v : Byte) : (s.raiseFault k p v).halted = s.halted := rfl
@[simp] theorem State.raiseFault_stopped (s : State) (k : FaultKind) (p : Word) (v : Byte) : (s.raiseFault k p v).stopped = s.stopped := rfl
@[simp] theorem State.raiseFault_fault (s : State) (k : FaultKind) (p : Word) (v : Byte) : (s.raiseFault k p v).fault = some ⟨k, p, v⟩ := rfl
@[simp] theorem State.raiseFault_cycles (s : State) (k : FaultKind) (p : Word) (v : Byte) : (s.raiseFault k p v).cycles = none := rfl
@[simp] theorem State.raiseFault_dispatchCycles (s : State) (k : FaultKind) (p : Word) (v : Byte) : (s.raiseFault k p v).dispatchCycles = s.dispatchCycles := rfl
@[simp] theorem State.raiseFault_bus (s : State) (k : FaultKind) (p : Word) (v : Byte) : (s.raiseFault k p v).bus = s.bus := rfl
@[simp] theorem State.raiseFault_env (s : State) (k : FaultKind) (p : Word) (v : Byte) : (s.raiseFault k p v).env = s.env := rfl
@[simp] theorem State.raiseFault_envCycle (s : State) (k : FaultKind) (p : Word) (v : Byte) : (s.raiseFault k p v).envCycle = s.envCycle := rfl

/-! ## `push16` -/

@[simp] theorem State.push16_a (s : State) (v : Word) : (s.push16 v).a = s.a := rfl
@[simp] theorem State.push16_b (s : State) (v : Word) : (s.push16 v).b = s.b := rfl
@[simp] theorem State.push16_c (s : State) (v : Word) : (s.push16 v).c = s.c := rfl
@[simp] theorem State.push16_d (s : State) (v : Word) : (s.push16 v).d = s.d := rfl
@[simp] theorem State.push16_e (s : State) (v : Word) : (s.push16 v).e = s.e := rfl
@[simp] theorem State.push16_hl (s : State) (v : Word) : (s.push16 v).hl = s.hl := rfl
@[simp] theorem State.push16_fZ (s : State) (v : Word) : (s.push16 v).fZ = s.fZ := rfl
@[simp] theorem State.push16_fN (s : State) (v : Word) : (s.push16 v).fN = s.fN := rfl
@[simp] theorem State.push16_fH (s : State) (v : Word) : (s.push16 v).fH = s.fH := rfl
@[simp] theorem State.push16_fC (s : State) (v : Word) : (s.push16 v).fC = s.fC := rfl
@[simp] theorem State.push16_sp (s : State) (v : Word) : (s.push16 v).sp = s.sp - 1#16 - 1#16 := rfl
@[simp] theorem State.push16_pc (s : State) (v : Word) : (s.push16 v).pc = s.pc := rfl
@[simp] theorem State.push16_ime (s : State) (v : Word) : (s.push16 v).ime = s.ime := rfl
@[simp] theorem State.push16_halted (s : State) (v : Word) : (s.push16 v).halted = s.halted := rfl
@[simp] theorem State.push16_stopped (s : State) (v : Word) : (s.push16 v).stopped = s.stopped := rfl
@[simp] theorem State.push16_fault (s : State) (v : Word) : (s.push16 v).fault = s.fault := rfl
@[simp] theorem State.push16_cycles (s : State) (v : Word) : (s.push16 v).cycles = s.cycles := rfl
@[simp] theorem State.push16_dispatchCycles (s : State) (v : Word) : (s.push16 v).dispatchCycles = s.dispatchCycles := rfl
@[simp] theorem State.push16_bus (s : State) (v : Word) : (s.push16 v).bus = (s.bus.write (s.sp - 1#16) (hiByte v)).write (s.sp - 1#16 - 1#16) (loByte v) := rfl
@[simp] theorem State.push16_env (s : State) (v : Word) : (s.push16 v).env = s.env := rfl
@[simp] theorem State.push16_envCycle (s : State) (v : Word) : (s.push16 v).envCycle = s.envCycle := rfl

/-! ## `setReg8` -/

@[simp] theorem State.setReg8_fZ (s : State) (r : Reg8) (v : Byte) : (s.setReg8 r v).fZ = s.fZ := by cases r <;> rfl
@[simp] theorem State.setReg8_fN (s : State) (r : Reg8) (v : Byte) : (s.setReg8 r v).fN = s.fN := by cases r <;> rfl
@[simp] theorem State.setReg8_fH (s : State) (r : Reg8) (v : Byte) : (s.setReg8 r v).fH = s.fH := by cases r <;> rfl
@[simp] theorem State.setReg8_fC (s : State) (r : Reg8) (v : Byte) : (s.setReg8 r v).fC = s.fC := by cases r <;> rfl
@[simp] theorem State.setReg8_sp (s : State) (r : Reg8) (v : Byte) : (s.setReg8 r v).sp = s.sp := by cases r <;> rfl
@[simp] theorem State.setReg8_pc (s : State) (r : Reg8) (v : Byte) : (s.setReg8 r v).pc = s.pc := by cases r <;> rfl
@[simp] theorem State.setReg8_ime (s : State) (r : Reg8) (v : Byte) : (s.setReg8 r v).ime = s.ime := by cases r <;> rfl
@[simp] theorem State.setReg8_halted (s : State) (r : Reg8) (v : Byte) : (s.setReg8 r v).halted = s.halted := by cases r <;> rfl
@[simp] theorem State.setReg8_stopped (s : State) (r : Reg8) (v : Byte) : (s.setReg8 r v).stopped = s.stopped := by cases r <;> rfl
@[simp] theorem State.setReg8_fault (s : State) (r : Reg8) (v : Byte) : (s.setReg8 r v).fault = s.fault := by cases r <;> rfl
@[simp] theorem State.setReg8_cycles (s : State) (r : Reg8) (v : Byte) : (s.setReg8 r v).cycles = s.cycles := by cases r <;> rfl
@[simp] theorem State.setReg8_dispatchCycles (s : State) (r : Reg8) (v : Byte) : (s.setReg8 r v).dispatchCycles = s.dispatchCycles := by cases r <;> rfl
@[simp] theorem State.setReg8_bus (s : State) (r : Reg8) (v : Byte) : (s.setReg8 r v).bus = s.bus := by cases r <;> rfl
@[simp] theorem State.setReg8_env (s : State) (r : Reg8) (v : Byte) : (s.setReg8 r v).env = s.env := by cases r <;> rfl
@[simp] theorem State.setReg8_envCycle (s : State) (r : Reg8) (v : Byte) : (s.setReg8 r v).envCycle = s.envCycle := by cases r <;> rfl

/-! ## `setPair` -/

@[simp] theorem State.setPair_a (s : State) (p : Pair) (v : Word) : (s.setPair p v).a = s.a := by cases p <;> rfl
@[simp] theorem State.setPair_fZ (s : State) (p : Pair) (v : Word) : (s.setPair p v).fZ = s.fZ := by cases p <;> rfl
@[simp] theorem State.setPair_fN (s : State) (p : Pair) (v : Word) : (s.setPair p v).fN = s.fN := by cases p <;> rfl
@[simp] theorem State.setPair_fH (s : State) (p : Pair) (v : Word) : (s.setPair p v).fH = s.fH := by cases p <;> rfl
@[simp] theorem State.setPair_fC (s : State) (p : Pair) (v : Word) : (s.setPair p v).fC = s.fC := by cases p <;> rfl
@[simp] theorem State.setPair_pc (s : State) (p : Pair) (v : Word) : (s.setPair p v).pc = s.pc := by cases p <;> rfl
@[simp] theorem State.setPair_ime (s : State) (p : Pair) (v : Word) : (s.setPair p v).ime = s.ime := by cases p <;> rfl
@[simp] theorem State.setPair_halted (s : State) (p : Pair) (v : Word) : (s.setPair p v).halted = s.halted := by cases p <;> rfl
@[simp] theorem State.setPair_stopped (s : State) (p : Pair) (v : Word) : (s.setPair p v).stopped = s.stopped := by cases p <;> rfl
@[simp] theorem State.setPair_fault (s : State) (p : Pair) (v : Word) : (s.setPair p v).fault = s.fault := by cases p <;> rfl
@[simp] theorem State.setPair_cycles (s : State) (p : Pair) (v : Word) : (s.setPair p v).cycles = s.cycles := by cases p <;> rfl
@[simp] theorem State.setPair_dispatchCycles (s : State) (p : Pair) (v : Word) : (s.setPair p v).dispatchCycles = s.dispatchCycles := by cases p <;> rfl
@[simp] theorem State.setPair_bus (s : State) (p : Pair) (v : Word) : (s.setPair p v).bus = s.bus := by cases p <;> rfl
@[simp] theorem State.setPair_env (s : State) (p : Pair) (v : Word) : (s.setPair p v).env = s.env := by cases p <;> rfl
@[simp] theorem State.setPair_envCycle (s : State) (p : Pair) (v : Word) : (s.setPair p v).envCycle = s.envCycle := by cases p <;> rfl

/-! ## `setStackPair` -/

@[simp] theorem State.setStackPair_sp (s : State) (p : StackPair) (v : Word) : (s.setStackPair p v).sp = s.sp := by cases p <;> rfl
@[simp] theorem State.setStackPair_pc (s : State) (p : StackPair) (v : Word) : (s.setStackPair p v).pc = s.pc := by cases p <;> rfl
@[simp] theorem State.setStackPair_ime (s : State) (p : StackPair) (v : Word) : (s.setStackPair p v).ime = s.ime := by cases p <;> rfl
@[simp] theorem State.setStackPair_halted (s : State) (p : StackPair) (v : Word) : (s.setStackPair p v).halted = s.halted := by cases p <;> rfl
@[simp] theorem State.setStackPair_stopped (s : State) (p : StackPair) (v : Word) : (s.setStackPair p v).stopped = s.stopped := by cases p <;> rfl
@[simp] theorem State.setStackPair_fault (s : State) (p : StackPair) (v : Word) : (s.setStackPair p v).fault = s.fault := by cases p <;> rfl
@[simp] theorem State.setStackPair_cycles (s : State) (p : StackPair) (v : Word) : (s.setStackPair p v).cycles = s.cycles := by cases p <;> rfl
@[simp] theorem State.setStackPair_dispatchCycles (s : State) (p : StackPair) (v : Word) : (s.setStackPair p v).dispatchCycles = s.dispatchCycles := by cases p <;> rfl
@[simp] theorem State.setStackPair_bus (s : State) (p : StackPair) (v : Word) : (s.setStackPair p v).bus = s.bus := by cases p <;> rfl
@[simp] theorem State.setStackPair_env (s : State) (p : StackPair) (v : Word) : (s.setStackPair p v).env = s.env := by cases p <;> rfl
@[simp] theorem State.setStackPair_envCycle (s : State) (p : StackPair) (v : Word) : (s.setStackPair p v).envCycle = s.envCycle := by cases p <;> rfl

/-! ## `haltedTick` -/

@[simp] theorem State.haltedTick_a (s : State) : (s.haltedTick).a = s.a := rfl
@[simp] theorem State.haltedTick_b (s : State) : (s.haltedTick).b = s.b := rfl
@[simp] theorem State.haltedTick_c (s : State) : (s.haltedTick).c = s.c := rfl
@[simp] theorem State.haltedTick_d (s : State) : (s.haltedTick).d = s.d := rfl
@[simp] theorem State.haltedTick_e (s : State) : (s.haltedTick).e = s.e := rfl
@[simp] theorem State.haltedTick_hl (s : State) : (s.haltedTick).hl = s.hl := rfl
@[simp] theorem State.haltedTick_fZ (s : State) : (s.haltedTick).fZ = s.fZ := rfl
@[simp] theorem State.haltedTick_fN (s : State) : (s.haltedTick).fN = s.fN := rfl
@[simp] theorem State.haltedTick_fH (s : State) : (s.haltedTick).fH = s.fH := rfl
@[simp] theorem State.haltedTick_fC (s : State) : (s.haltedTick).fC = s.fC := rfl
@[simp] theorem State.haltedTick_sp (s : State) : (s.haltedTick).sp = s.sp := rfl
@[simp] theorem State.haltedTick_pc (s : State) : (s.haltedTick).pc = s.pc := rfl
@[simp] theorem State.haltedTick_ime (s : State) : (s.haltedTick).ime = s.ime := rfl
@[simp] theorem State.haltedTick_halted (s : State) : (s.haltedTick).halted = s.halted := rfl
@[simp] theorem State.haltedTick_stopped (s : State) : (s.haltedTick).stopped = s.stopped := rfl
@[simp] theorem State.haltedTick_fault (s : State) : (s.haltedTick).fault = s.fault := rfl
@[simp] theorem State.haltedTick_cycles (s : State) : (s.haltedTick).cycles = some 4 := rfl
@[simp] theorem State.haltedTick_dispatchCycles (s : State) : (s.haltedTick).dispatchCycles = s.dispatchCycles := rfl
@[simp] theorem State.haltedTick_bus (s : State) : (s.haltedTick).bus = { s.bus with freeReads := s.bus.freeReads + 1 } := rfl
@[simp] theorem State.haltedTick_env (s : State) : (s.haltedTick).env = s.env := rfl
@[simp] theorem State.haltedTick_envCycle (s : State) : (s.haltedTick).envCycle = s.envCycle := rfl

/-! ## `afterFetch` -/

@[simp] theorem State.afterFetch_a (s : State) : (s.afterFetch).a = s.a := rfl
@[simp] theorem State.afterFetch_b (s : State) : (s.afterFetch).b = s.b := rfl
@[simp] theorem State.afterFetch_c (s : State) : (s.afterFetch).c = s.c := rfl
@[simp] theorem State.afterFetch_d (s : State) : (s.afterFetch).d = s.d := rfl
@[simp] theorem State.afterFetch_e (s : State) : (s.afterFetch).e = s.e := rfl
@[simp] theorem State.afterFetch_hl (s : State) : (s.afterFetch).hl = s.hl := rfl
@[simp] theorem State.afterFetch_fZ (s : State) : (s.afterFetch).fZ = s.fZ := rfl
@[simp] theorem State.afterFetch_fN (s : State) : (s.afterFetch).fN = s.fN := rfl
@[simp] theorem State.afterFetch_fH (s : State) : (s.afterFetch).fH = s.fH := rfl
@[simp] theorem State.afterFetch_fC (s : State) : (s.afterFetch).fC = s.fC := rfl
@[simp] theorem State.afterFetch_sp (s : State) : (s.afterFetch).sp = s.sp := rfl
@[simp] theorem State.afterFetch_pc (s : State) : (s.afterFetch).pc = s.pc + BitVec.ofNat 16 s.fetchLength := rfl
@[simp] theorem State.afterFetch_ime (s : State) : (s.afterFetch).ime = s.ime := rfl
@[simp] theorem State.afterFetch_halted (s : State) : (s.afterFetch).halted = s.halted := rfl
@[simp] theorem State.afterFetch_stopped (s : State) : (s.afterFetch).stopped = s.stopped := rfl
@[simp] theorem State.afterFetch_fault (s : State) : (s.afterFetch).fault = s.fault := rfl
@[simp] theorem State.afterFetch_cycles (s : State) : (s.afterFetch).cycles = s.cycles := rfl
@[simp] theorem State.afterFetch_dispatchCycles (s : State) : (s.afterFetch).dispatchCycles = s.dispatchCycles := rfl
@[simp] theorem State.afterFetch_bus (s : State) : (s.afterFetch).bus = { s.bus with freeReads := s.bus.freeReads + 1 } := rfl
@[simp] theorem State.afterFetch_env (s : State) : (s.afterFetch).env = s.env := rfl
@[simp] theorem State.afterFetch_envCycle (s : State) : (s.afterFetch).envCycle = s.envCycle := rfl

/-! ## `returnFromInterrupt` -/

@[simp] theorem State.returnFromInterrupt_a (s : State) : (s.returnFromInterrupt).a = s.a := rfl
@[simp] theorem State.returnFromInterrupt_b (s : State) : (s.returnFromInterrupt).b = s.b := rfl
@[simp] theorem State.returnFromInterrupt_c (s : State) : (s.returnFromInterrupt).c = s.c := rfl
@[simp] theorem State.returnFromInterrupt_d (s : State) : (s.returnFromInterrupt).d = s.d := rfl
@[simp] theorem State.returnFromInterrupt_e (s : State) : (s.returnFromInterrupt).e = s.e := rfl
@[simp] theorem State.returnFromInterrupt_hl (s : State) : (s.returnFromInterrupt).hl = s.hl := rfl
@[simp] theorem State.returnFromInterrupt_fZ (s : State) : (s.returnFromInterrupt).fZ = s.fZ := rfl
@[simp] theorem State.returnFromInterrupt_fN (s : State) : (s.returnFromInterrupt).fN = s.fN := rfl
@[simp] theorem State.returnFromInterrupt_fH (s : State) : (s.returnFromInterrupt).fH = s.fH := rfl
@[simp] theorem State.returnFromInterrupt_fC (s : State) : (s.returnFromInterrupt).fC = s.fC := rfl
@[simp] theorem State.returnFromInterrupt_sp (s : State) : (s.returnFromInterrupt).sp = s.sp + 2#16 := rfl
@[simp] theorem State.returnFromInterrupt_pc (s : State) : (s.returnFromInterrupt).pc = s.popValue := rfl
@[simp] theorem State.returnFromInterrupt_ime (s : State) : (s.returnFromInterrupt).ime = true := rfl
@[simp] theorem State.returnFromInterrupt_halted (s : State) : (s.returnFromInterrupt).halted = s.halted := rfl
@[simp] theorem State.returnFromInterrupt_stopped (s : State) : (s.returnFromInterrupt).stopped = s.stopped := rfl
@[simp] theorem State.returnFromInterrupt_fault (s : State) : (s.returnFromInterrupt).fault = s.fault := rfl
@[simp] theorem State.returnFromInterrupt_cycles (s : State) : (s.returnFromInterrupt).cycles = s.cycles := rfl
@[simp] theorem State.returnFromInterrupt_dispatchCycles (s : State) : (s.returnFromInterrupt).dispatchCycles = s.dispatchCycles := rfl
@[simp] theorem State.returnFromInterrupt_bus (s : State) : (s.returnFromInterrupt).bus = s.bus := rfl
@[simp] theorem State.returnFromInterrupt_env (s : State) : (s.returnFromInterrupt).env = s.env := rfl
@[simp] theorem State.returnFromInterrupt_envCycle (s : State) : (s.returnFromInterrupt).envCycle = s.envCycle := rfl

/-! ## `applyEnv` -/

@[simp] theorem State.applyEnv_a (s : State) (mv : EnvMove) : (s.applyEnv mv).a = s.a := rfl
@[simp] theorem State.applyEnv_b (s : State) (mv : EnvMove) : (s.applyEnv mv).b = s.b := rfl
@[simp] theorem State.applyEnv_c (s : State) (mv : EnvMove) : (s.applyEnv mv).c = s.c := rfl
@[simp] theorem State.applyEnv_d (s : State) (mv : EnvMove) : (s.applyEnv mv).d = s.d := rfl
@[simp] theorem State.applyEnv_e (s : State) (mv : EnvMove) : (s.applyEnv mv).e = s.e := rfl
@[simp] theorem State.applyEnv_hl (s : State) (mv : EnvMove) : (s.applyEnv mv).hl = s.hl := rfl
@[simp] theorem State.applyEnv_fZ (s : State) (mv : EnvMove) : (s.applyEnv mv).fZ = s.fZ := rfl
@[simp] theorem State.applyEnv_fN (s : State) (mv : EnvMove) : (s.applyEnv mv).fN = s.fN := rfl
@[simp] theorem State.applyEnv_fH (s : State) (mv : EnvMove) : (s.applyEnv mv).fH = s.fH := rfl
@[simp] theorem State.applyEnv_fC (s : State) (mv : EnvMove) : (s.applyEnv mv).fC = s.fC := rfl
@[simp] theorem State.applyEnv_sp (s : State) (mv : EnvMove) : (s.applyEnv mv).sp = s.sp := rfl
@[simp] theorem State.applyEnv_pc (s : State) (mv : EnvMove) : (s.applyEnv mv).pc = s.pc := rfl
@[simp] theorem State.applyEnv_ime (s : State) (mv : EnvMove) : (s.applyEnv mv).ime = s.ime := rfl
@[simp] theorem State.applyEnv_halted (s : State) (mv : EnvMove) : (s.applyEnv mv).halted = s.halted := rfl
@[simp] theorem State.applyEnv_stopped (s : State) (mv : EnvMove) : (s.applyEnv mv).stopped = s.stopped := rfl
@[simp] theorem State.applyEnv_fault (s : State) (mv : EnvMove) : (s.applyEnv mv).fault = s.fault := rfl
@[simp] theorem State.applyEnv_cycles (s : State) (mv : EnvMove) : (s.applyEnv mv).cycles = s.cycles := rfl
@[simp] theorem State.applyEnv_dispatchCycles (s : State) (mv : EnvMove) : (s.applyEnv mv).dispatchCycles = s.dispatchCycles := rfl
@[simp] theorem State.applyEnv_bus (s : State) (mv : EnvMove) : (s.applyEnv mv).bus = { s.bus with mem := (envWrites s.bus.mem mv.writes).write addrIF ((envWrites s.bus.mem mv.writes).read addrIF ||| mv.requests.setWidth 8) } := rfl
@[simp] theorem State.applyEnv_env (s : State) (mv : EnvMove) : (s.applyEnv mv).env = s.env := rfl
@[simp] theorem State.applyEnv_envCycle (s : State) (mv : EnvMove) : (s.applyEnv mv).envCycle = s.envCycle := rfl

/-! ## `environmentTurn` -/

@[simp] theorem State.environmentTurn_a (s : State) : (s.environmentTurn).a = s.a := rfl
@[simp] theorem State.environmentTurn_b (s : State) : (s.environmentTurn).b = s.b := rfl
@[simp] theorem State.environmentTurn_c (s : State) : (s.environmentTurn).c = s.c := rfl
@[simp] theorem State.environmentTurn_d (s : State) : (s.environmentTurn).d = s.d := rfl
@[simp] theorem State.environmentTurn_e (s : State) : (s.environmentTurn).e = s.e := rfl
@[simp] theorem State.environmentTurn_hl (s : State) : (s.environmentTurn).hl = s.hl := rfl
@[simp] theorem State.environmentTurn_fZ (s : State) : (s.environmentTurn).fZ = s.fZ := rfl
@[simp] theorem State.environmentTurn_fN (s : State) : (s.environmentTurn).fN = s.fN := rfl
@[simp] theorem State.environmentTurn_fH (s : State) : (s.environmentTurn).fH = s.fH := rfl
@[simp] theorem State.environmentTurn_fC (s : State) : (s.environmentTurn).fC = s.fC := rfl
@[simp] theorem State.environmentTurn_sp (s : State) : (s.environmentTurn).sp = s.sp := rfl
@[simp] theorem State.environmentTurn_pc (s : State) : (s.environmentTurn).pc = s.pc := rfl
@[simp] theorem State.environmentTurn_ime (s : State) : (s.environmentTurn).ime = s.ime := rfl
@[simp] theorem State.environmentTurn_halted (s : State) : (s.environmentTurn).halted = s.halted := rfl
@[simp] theorem State.environmentTurn_stopped (s : State) : (s.environmentTurn).stopped = s.stopped := rfl
@[simp] theorem State.environmentTurn_fault (s : State) : (s.environmentTurn).fault = s.fault := rfl
@[simp] theorem State.environmentTurn_cycles (s : State) : (s.environmentTurn).cycles = s.cycles := rfl
@[simp] theorem State.environmentTurn_dispatchCycles (s : State) : (s.environmentTurn).dispatchCycles = s.dispatchCycles := rfl
@[simp] theorem State.environmentTurn_env (s : State) : (s.environmentTurn).env = s.nextEnvMove.2 := rfl
@[simp] theorem State.environmentTurn_envCycle (s : State) : (s.environmentTurn).envCycle = s.envCycle := rfl

/-! ## `dispatch` -/

@[simp] theorem State.dispatch_a (s : State) (i : Fin 5) : (s.dispatch i).a = s.a := rfl
@[simp] theorem State.dispatch_b (s : State) (i : Fin 5) : (s.dispatch i).b = s.b := rfl
@[simp] theorem State.dispatch_c (s : State) (i : Fin 5) : (s.dispatch i).c = s.c := rfl
@[simp] theorem State.dispatch_d (s : State) (i : Fin 5) : (s.dispatch i).d = s.d := rfl
@[simp] theorem State.dispatch_e (s : State) (i : Fin 5) : (s.dispatch i).e = s.e := rfl
@[simp] theorem State.dispatch_hl (s : State) (i : Fin 5) : (s.dispatch i).hl = s.hl := rfl
@[simp] theorem State.dispatch_fZ (s : State) (i : Fin 5) : (s.dispatch i).fZ = s.fZ := rfl
@[simp] theorem State.dispatch_fN (s : State) (i : Fin 5) : (s.dispatch i).fN = s.fN := rfl
@[simp] theorem State.dispatch_fH (s : State) (i : Fin 5) : (s.dispatch i).fH = s.fH := rfl
@[simp] theorem State.dispatch_fC (s : State) (i : Fin 5) : (s.dispatch i).fC = s.fC := rfl
@[simp] theorem State.dispatch_sp (s : State) (i : Fin 5) : (s.dispatch i).sp = s.sp - 1#16 - 1#16 := rfl
@[simp] theorem State.dispatch_pc (s : State) (i : Fin 5) : (s.dispatch i).pc = interruptVector i := rfl
@[simp] theorem State.dispatch_ime (s : State) (i : Fin 5) : (s.dispatch i).ime = false := rfl
@[simp] theorem State.dispatch_halted (s : State) (i : Fin 5) : (s.dispatch i).halted = false := rfl
@[simp] theorem State.dispatch_stopped (s : State) (i : Fin 5) : (s.dispatch i).stopped = s.stopped := rfl
@[simp] theorem State.dispatch_fault (s : State) (i : Fin 5) : (s.dispatch i).fault = s.fault := rfl
@[simp] theorem State.dispatch_cycles (s : State) (i : Fin 5) : (s.dispatch i).cycles = s.cycles := rfl
@[simp] theorem State.dispatch_dispatchCycles (s : State) (i : Fin 5) : (s.dispatch i).dispatchCycles = s.dispatchCycles := rfl
@[simp] theorem State.dispatch_env (s : State) (i : Fin 5) : (s.dispatch i).env = s.env := rfl
@[simp] theorem State.dispatch_envCycle (s : State) (i : Fin 5) : (s.dispatch i).envCycle = s.envCycle := rfl

end Sys2Proof.Machine
end

