-- ==== Sys2Proof/Laws/Operands.lean ====
section
/-! SUPPORT. Laws of the register accessors: byte order, a read after a write, and the flag byte's packing. -/

namespace Sys2Proof

@[simp] theorem hiByte_joinBytes (h l : Byte) : hiByte (joinBytes h l) = h := by
  apply BitVec.eq_of_toNat_eq
  have := h.isLt; have := l.isLt
  simp only [hiByte, joinBytes, BitVec.extractLsb'_toNat, BitVec.toNat_append, Nat.shiftLeft_eq, Nat.shiftRight_eq_div_pow]
  rw [← Nat.shiftLeft_eq, ← Nat.shiftLeft_add_eq_or_of_lt l.isLt, Nat.shiftLeft_eq]
  omega

@[simp] theorem loByte_joinBytes (h l : Byte) : loByte (joinBytes h l) = l := by
  apply BitVec.eq_of_toNat_eq
  have := h.isLt; have := l.isLt
  simp only [loByte, joinBytes, BitVec.extractLsb'_toNat, BitVec.toNat_append, Nat.shiftRight_zero]
  rw [← Nat.shiftLeft_add_eq_or_of_lt l.isLt, Nat.shiftLeft_eq]
  omega

/-- `{h, l} = h*256 + l` (R9). -/
theorem joinBytes_toNat (h l : Byte) : (joinBytes h l).toNat = h.toNat * 256 + l.toNat := by
  simp only [joinBytes, BitVec.toNat_append]
  rw [← Nat.shiftLeft_add_eq_or_of_lt l.isLt, Nat.shiftLeft_eq]

theorem hiByte_toNat (w : Word) : (hiByte w).toNat = w.toNat / 256 := by
  have := w.isLt
  simp only [hiByte, BitVec.extractLsb'_toNat, Nat.shiftRight_eq_div_pow]
  omega

theorem loByte_toNat (w : Word) : (loByte w).toNat = w.toNat % 256 := by
  simp [loByte, BitVec.extractLsb'_toNat]

@[simp] theorem joinBytes_hiByte_loByte (w : Word) : joinBytes (hiByte w) (loByte w) = w := by
  apply BitVec.eq_of_toNat_eq
  rw [joinBytes_toNat, hiByte_toNat, loByte_toNat]
  omega

end Sys2Proof

namespace Sys2Proof.Machine

@[simp] theorem State.getReg8_setReg8_self (s : State) (r : Reg8) (v : Byte) : (s.setReg8 r v).getReg8 r = v := by
  cases r <;> simp [State.setReg8, State.getReg8, State.h, State.l]

theorem State.getReg8_setReg8_of_ne (s : State) {r r' : Reg8} (v : Byte) (h : r' ≠ r) :
    (s.setReg8 r v).getReg8 r' = s.getReg8 r' := by
  cases r <;> cases r' <;> simp_all [State.setReg8, State.getReg8, State.h, State.l]

/-- A read of any register after a write of one. -/
theorem State.getReg8_setReg8 (s : State) (r r' : Reg8) (v : Byte) :
    (s.setReg8 r v).getReg8 r' = if r' = r then v else s.getReg8 r' := by
  split
  · subst r'; simp
  · exact s.getReg8_setReg8_of_ne v ‹_›

@[simp] theorem State.getPair_setPair_self (s : State) (p : Pair) (v : Word) : (s.setPair p v).getPair p = v := by
  cases p <;> simp [State.setPair, State.getPair, State.bc, State.de]

theorem State.getPair_setPair_of_ne (s : State) {p p' : Pair} (v : Word) (h : p' ≠ p) :
    (s.setPair p v).getPair p' = s.getPair p' := by
  cases p <;> cases p' <;> first | rfl | exact absurd rfl h

@[simp] theorem Flags.unpack_pack (g : Flags) : Flags.unpack g.pack = g := by
  rcases g with ⟨_ | _, _ | _, _ | _, _ | _⟩ <;> rfl

@[simp] theorem Flags.pack_lowNibble (g : Flags) : g.pack &&& 0x0F#8 = 0x00#8 := by
  rcases g with ⟨_ | _, _ | _, _ | _, _ | _⟩ <;> rfl

/-- Packing the flags read from a byte drops its low nibble (R25). -/
theorem Flags.pack_unpack (v : Byte) : (Flags.unpack v).pack = v &&& 0xF0#8 := by
  revert v; decide

@[simp] theorem State.flags_setFlags (s : State) (g : Flags) : (s.setFlags g).flags = g := rfl

/-- What a popped pair reads as (R284, R285). -/
theorem State.getStackPair_setStackPair_self (s : State) (p : StackPair) (v : Word) :
    (s.setStackPair p v).getStackPair p = if p = .af then v &&& 0xFFF0#16 else v := by
  cases p
  · simp [State.setStackPair, State.getStackPair, State.setPair, State.bc]
  · simp [State.setStackPair, State.getStackPair, State.setPair, State.de]
  · simp [State.setStackPair, State.getStackPair, State.setPair]
  · simp only [State.setStackPair, State.getStackPair, if_true, State.f, State.flags_setFlags, Flags.pack_unpack,
      State.setFlags_a]
    apply BitVec.eq_of_getLsbD_eq
    intro i hi
    simp only [joinBytes, hiByte, loByte, BitVec.getLsbD_append, BitVec.getLsbD_and, BitVec.getLsbD_extractLsb']
    interval_cases i <;> simp

@[simp] theorem State.getReg8_tick (s : State) (n : Nat) (r : Reg8) : (s.tick n).getReg8 r = s.getReg8 r := by
  cases r <;> rfl

@[simp] theorem State.getReg8_write (s : State) (x : Word) (v : Byte) (r : Reg8) :
    (s.write x v).getReg8 r = s.getReg8 r := by cases r <;> rfl

@[simp] theorem State.getReg8_setFlags (s : State) (g : Flags) (r : Reg8) :
    (s.setFlags g).getReg8 r = s.getReg8 r := by cases r <;> rfl

@[simp] theorem State.getReg8_setPc (s : State) (t : Word) (r : Reg8) : (s.setPc t).getReg8 r = s.getReg8 r := by
  cases r <;> rfl

@[simp] theorem State.getReg8_push16 (s : State) (v : Word) (r : Reg8) : (s.push16 v).getReg8 r = s.getReg8 r := by
  cases r <;> rfl

@[simp] theorem State.getReg8_popSp (s : State) (r : Reg8) : s.popSp.getReg8 r = s.getReg8 r := by cases r <;> rfl

@[simp] theorem State.getStackPair_push16 (s : State) (v : Word) (p : StackPair) :
    (s.push16 v).getStackPair p = s.getStackPair p := by cases p <;> rfl

@[simp] theorem State.read_tick (s : State) (n : Nat) (x : Word) : (s.tick n).read x = s.read x := rfl

@[simp] theorem State.read_setFlags (s : State) (g : Flags) (x : Word) : (s.setFlags g).read x = s.read x := rfl

@[simp] theorem State.read_setPc (s : State) (t : Word) (x : Word) : (s.setPc t).read x = s.read x := rfl

@[simp] theorem State.read_popSp (s : State) (x : Word) : s.popSp.read x = s.read x := rfl

@[simp] theorem State.read_setReg8 (s : State) (r : Reg8) (v : Byte) (x : Word) :
    (s.setReg8 r v).read x = s.read x := by cases r <;> rfl

@[simp] theorem State.read_setPair (s : State) (p : Pair) (v : Word) (x : Word) :
    (s.setPair p v).read x = s.read x := by cases p <;> rfl

@[simp] theorem State.read_setStackPair (s : State) (p : StackPair) (v : Word) (x : Word) :
    (s.setStackPair p v).read x = s.read x := by cases p <;> rfl

theorem State.read_write (s : State) (x : Word) (v : Byte) (y : Word) :
    (s.write x v).read y = (s.bus.write x v).read y := rfl

end Sys2Proof.Machine
end

