-- ==== Sys2Proof/Laws/Bus.lean ====
section
/-! SUPPORT. Laws of the bus: what a read sees, what a write may change, and that a write keeps the invariant. -/

namespace Sys2Proof.Machine

/-! ## Storage keys -/

theorem storageKey_isStorageKey {a : Word} (h : 0x8000 ≤ a.toNat) : isStorageKey (storageKey a) := by
  have := a.isLt
  simp only [isStorageKey, storageKey]
  split <;> omega

/-- The independent writable bytes are the 0x6000 of 0x8000..0xDFFF and the 0x200 of 0xFE00..0xFFFF, 25088 together
(log 19). -/
theorem isStorageKey_iff (k : Nat) :
    isStorageKey k ↔ (0x8000 ≤ k ∧ k < 0x8000 + 0x6000) ∨ (0xFE00 ≤ k ∧ k < 0xFE00 + 0x200) := by
  simp only [isStorageKey]; omega

theorem storageKey_eq_self {a : Word} (h : ¬ (0xE000 ≤ a.toNat ∧ a.toNat ≤ 0xFDFF)) : storageKey a = a.toNat := by
  simp [storageKey, h]

/-! ## Reads -/

theorem Bus.read_rom0 (b : Bus) {a : Word} (h : a.toNat ≤ 0x3FFF) : b.read a = b.rom.read a.toNat := by
  simp [Bus.read, h]

theorem Bus.read_bank (b : Bus) {a : Word} (h : 0x4000 ≤ a.toNat) (h' : a.toNat ≤ 0x7FFF)
    (hb : b.bank * 0x4000 < b.romSize) : b.read a = b.rom.read (b.bankOffset a) := by
  simp only [Bus.read]
  rw [if_neg (by omega), if_pos h', if_neg (by omega)]

theorem Bus.read_absent (b : Bus) {a : Word} (h : 0x4000 ≤ a.toNat) (h' : a.toNat ≤ 0x7FFF)
    (hb : b.romSize ≤ b.bank * 0x4000) : b.read a = Config.absentRomByte b.freeReads a := by
  simp only [Bus.read]
  rw [if_neg (by omega), if_pos h', if_pos hb]

theorem Bus.read_high (b : Bus) {a : Word} (h : 0x8000 ≤ a.toNat) : b.read a = b.mem.read (storageKey a) := by
  simp only [Bus.read]
  rw [if_neg (by omega), if_neg (by omega)]

/-- A read depends on storage at its own key only. -/
theorem Bus.read_congr_mem (b : Bus) (m : Memory) (a : Word)
    (h : 0x8000 ≤ a.toNat → m.read (storageKey a) = b.mem.read (storageKey a)) :
    ({ b with mem := m } : Bus).read a = b.read a := by
  by_cases ha : 0x8000 ≤ a.toNat
  · rw [Bus.read_high _ ha, Bus.read_high _ ha]; exact h ha
  · have h2 : a.toNat ≤ 0x7FFF := by omega
    simp only [Bus.read, h2, if_true]
    rfl

/-- Two buses that agree on the image, the bank and the free values read alike below 0x8000. -/
theorem Bus.read_congr (b b' : Bus) (a : Word) (hr : b'.rom = b.rom) (hs : b'.romSize = b.romSize)
    (hf : b'.freeReads = b.freeReads) (hb : b'.bank = b.bank)
    (hm : 0x8000 ≤ a.toNat → b'.mem.read (storageKey a) = b.mem.read (storageKey a)) : b'.read a = b.read a := by
  by_cases ha : 0x8000 ≤ a.toNat
  · rw [Bus.read_high _ ha, Bus.read_high _ ha]; exact hm ha
  · have h2 : a.toNat ≤ 0x7FFF := by omega
    unfold Bus.read Bus.bankOffset
    rw [if_pos h2, if_pos h2, hr, hs, hf, hb]

/-! ## The DMA copy -/

theorem wf_dmaMem (b : Bus) (src : Word) (n : Nat) (h : b.mem.wf) : (b.dmaMem src n).wf := by
  induction n with
  | zero => exact h
  | succ n ih => exact Memory.wf_write ih _ _

theorem mem_dmaMem {b : Bus} {src : Word} {n : Nat} {x : Host.Cell} (h : x ∈ b.dmaMem src n) :
    x ∈ b.mem ∨ (0xFE00 ≤ x.1 ∧ x.1 < 0xFE00 + n) := by
  induction n with
  | zero => exact .inl h
  | succ n ih =>
    rcases Memory.mem_write h with h | ⟨rfl, -⟩
    · rcases ih h with h | h
      · exact .inl h
      · exact .inr ⟨h.1, by omega⟩
    · exact .inr ⟨by simp, by simp⟩

theorem read_dmaMem_of_outside (b : Bus) (src : Word) (n k : Nat) (h : k < 0xFE00 ∨ 0xFE00 + n ≤ k) :
    (b.dmaMem src n).read k = b.mem.read k := by
  induction n with
  | zero => rfl
  | succ n ih =>
    simp only [Bus.dmaMem]
    rw [Memory.read_write_of_ne _ _ (by omega)]
    exact ih (by omega)

/-- The source of byte `i` of a copy is not one of the bytes copied before it: the source block starts on a multiple of
256, so it coincides with OAM or does not meet it. -/
theorem dma_source_not_before (v : Byte) (n : Nat) (hn : n < 160) (hk : 0xFE00 ≤ storageKey (joinBytes v 0x00#8 + BitVec.ofNat 16 n)) :
    0xFE00 + n ≤ storageKey (joinBytes v 0x00#8 + BitVec.ofNat 16 n) := by
  have hv := v.isLt
  have ht : (joinBytes v 0x00#8 + BitVec.ofNat 16 n).toNat = v.toNat * 256 + n := by
    simp only [BitVec.toNat_add, joinBytes_toNat, BitVec.toNat_ofNat]
    omega
  simp only [storageKey, ht] at *
  split at hk <;> split <;> omega

/-- What OAM holds after a copy (R79). -/
theorem read_dmaMem (b : Bus) (v : Byte) (n i : Nat) (hb : b.mem.wf) (hi : i < n) (hn : n ≤ 160) :
    (b.dmaMem (joinBytes v 0x00#8) n).read (0xFE00 + i) = b.read (joinBytes v 0x00#8 + BitVec.ofNat 16 i) := by
  induction n with
  | zero => omega
  | succ n ih =>
    simp only [Bus.dmaMem]
    by_cases hin : i = n
    · subst hin
      rw [Memory.read_write_self (wf_dmaMem _ _ _ hb)]
      refine Bus.read_congr_mem _ _ _ fun _ => ?_
      refine read_dmaMem_of_outside _ _ _ _ ?_
      by_cases hk : 0xFE00 ≤ storageKey (joinBytes v 0x00#8 + BitVec.ofNat 16 i)
      · exact .inr (dma_source_not_before v i (by omega) hk)
      · exact .inl (by omega)
    · rw [Memory.read_write_of_ne _ _ (by omega)]
      exact ih (by omega) (by omega)

/-! ## What a write never touches -/

@[simp] theorem Bus.store_mem (b : Bus) (a : Word) (v : Byte) : (b.store a v).mem = b.mem.write (storageKey a) v := rfl

/-- A write below 0x8000 changes the bank number and the mode bit at most. -/
theorem Bus.writeRom_cases (b : Bus) (a : Word) (v : Byte) :
    b.writeRom a v = b ∨
    (b.cartType = .mbc1 ∧ 0x2000 ≤ a.toNat ∧ a.toNat ≤ 0x3FFF ∧
      ∃ n : BitVec 5, n ≠ 0#5 ∧ b.writeRom a v = { b with romBank := n }) ∨
    (b.cartType = .mbc1 ∧ b.writeRom a v = { b with mbc1Mode := v.getLsbD 0 }) := by
  simp only [Bus.writeRom]
  split
  · exact .inl rfl
  · rename_i hc
    split
    · exact .inl rfl
    · split
      · refine .inr (.inl ⟨hc, by omega, by omega, _, ?_, rfl⟩)
        split
        · decide
        · assumption
      · split
        · exact .inl rfl
        · exact .inr (.inr ⟨hc, rfl⟩)

theorem Bus.copyOam_mem (b : Bus) (v : Byte) : (b.copyOam v).mem = b.dmaMem (joinBytes v 0x00#8) 160 := by
  simp only [Bus.copyOam]

/-- What a write to 0xFF00..0xFFFF may change: storage, the display copies and the joypad output. -/
theorem Bus.writeIo_shape (b : Bus) (a : Word) (v : Byte) :
    ∃ m l st g o0 o1 j, b.writeIo a v =
      { b with mem := m, lcdc := l, stat := st, bgp := g, obp0 := o0, obp1 := o1, joypadOut := j } := by
  have dma : ∀ (c : Bus) (w : Byte), ∃ m, c.copyOam w = { c with mem := m } := fun c w => ⟨_, rfl⟩
  have all : ∀ (c : Bus), (∃ m l st g o0 o1 j, c =
      { b with mem := m, lcdc := l, stat := st, bgp := g, obp0 := o0, obp1 := o1, joypadOut := j }) ↔
      c.cartType = b.cartType ∧ c.romSize = b.romSize ∧ c.rom = b.rom ∧ c.romBank = b.romBank ∧
      c.mbc1Mode = b.mbc1Mode ∧ c.vramDirty = b.vramDirty ∧ c.freeReads = b.freeReads := by
    intro c
    constructor
    · rintro ⟨m, l, st, g, o0, o1, j, rfl⟩; exact ⟨rfl, rfl, rfl, rfl, rfl, rfl, rfl⟩
    · rintro ⟨h1, h2, h3, h4, h5, h6, h7⟩
      refine ⟨c.mem, c.lcdc, c.stat, c.bgp, c.obp0, c.obp1, c.joypadOut, ?_⟩
      rw [← h1, ← h2, ← h3, ← h4, ← h5, ← h6, ← h7]
  rw [all]
  unfold Bus.writeIo
  obtain ⟨m, hm⟩ := dma (b.store a v) v
  rw [hm]
  repeat' split
  all_goals exact ⟨rfl, rfl, rfl, rfl, rfl, rfl, rfl⟩

/-- What a write at or above 0x8000 may change. -/
theorem Bus.write_high_shape (b : Bus) (a : Word) (v : Byte) (h : 0x8000 ≤ a.toNat) :
    ∃ m l st g o0 o1 j d, b.write a v =
      { b with mem := m, lcdc := l, stat := st, bgp := g, obp0 := o0, obp1 := o1, joypadOut := j, vramDirty := d } := by
  simp only [Bus.write]
  rw [if_neg (by omega)]
  split
  · obtain ⟨m, l, st, g, o0, o1, j, e⟩ := b.writeIo_shape a v
    exact ⟨m, l, st, g, o0, o1, j, b.vramDirty, e⟩
  · split <;> exact ⟨_, _, _, _, _, _, _, _, rfl⟩

theorem Bus.write_low (b : Bus) (a : Word) (v : Byte) (h : a.toNat ≤ 0x7FFF) : b.write a v = b.writeRom a v := by
  simp [Bus.write, h]

/-- The image, its size, the cartridge type and the free values are never written (R69, R38). -/
@[simp] theorem Bus.write_rom (b : Bus) (a : Word) (v : Byte) : (b.write a v).rom = b.rom := by
  by_cases h : 0x8000 ≤ a.toNat
  · obtain ⟨m, l, st, g, o0, o1, j, d, e⟩ := b.write_high_shape a v h; rw [e]
  · rw [b.write_low a v (by omega)]
    rcases b.writeRom_cases a v with e | ⟨-, -, -, n, -, e⟩ | ⟨-, e⟩ <;> rw [e]

@[simp] theorem Bus.write_romSize (b : Bus) (a : Word) (v : Byte) : (b.write a v).romSize = b.romSize := by
  by_cases h : 0x8000 ≤ a.toNat
  · obtain ⟨m, l, st, g, o0, o1, j, d, e⟩ := b.write_high_shape a v h; rw [e]
  · rw [b.write_low a v (by omega)]
    rcases b.writeRom_cases a v with e | ⟨-, -, -, n, -, e⟩ | ⟨-, e⟩ <;> rw [e]

@[simp] theorem Bus.write_cartType (b : Bus) (a : Word) (v : Byte) : (b.write a v).cartType = b.cartType := by
  by_cases h : 0x8000 ≤ a.toNat
  · obtain ⟨m, l, st, g, o0, o1, j, d, e⟩ := b.write_high_shape a v h; rw [e]
  · rw [b.write_low a v (by omega)]
    rcases b.writeRom_cases a v with e | ⟨-, -, -, n, -, e⟩ | ⟨-, e⟩ <;> rw [e]

@[simp] theorem Bus.write_freeReads (b : Bus) (a : Word) (v : Byte) : (b.write a v).freeReads = b.freeReads := by
  by_cases h : 0x8000 ≤ a.toNat
  · obtain ⟨m, l, st, g, o0, o1, j, d, e⟩ := b.write_high_shape a v h; rw [e]
  · rw [b.write_low a v (by omega)]
    rcases b.writeRom_cases a v with e | ⟨-, -, -, n, -, e⟩ | ⟨-, e⟩ <;> rw [e]

/-- A write at or above 0x8000 leaves the bank alone. -/
theorem Bus.write_bank_high (b : Bus) (a : Word) (v : Byte) (h : 0x8000 ≤ a.toNat) : (b.write a v).bank = b.bank := by
  obtain ⟨m, l, st, g, o0, o1, j, d, e⟩ := b.write_high_shape a v h; rw [e]; rfl

/-- A write below 0x8000 leaves storage alone. -/
theorem Bus.write_mem_low (b : Bus) (a : Word) (v : Byte) (h : a.toNat ≤ 0x7FFF) : (b.write a v).mem = b.mem := by
  rw [b.write_low a v h]
  rcases b.writeRom_cases a v with e | ⟨-, -, -, n, -, e⟩ | ⟨-, e⟩ <;> rw [e]

/-! ## Storage after a write -/

/-- Everything a write at or above 0x8000 can do to storage: nothing at P1 (R74), one byte stored at the address's key
(0 at DIV and LY, the low five bits at IF and IE, else the byte written; R75 to R78, R80 to R86), the same and LY
cleared when LCDC bit 7 changes (R77), the same and 160 bytes copied at DMA (R79). -/
theorem Bus.write_mem_cases (b : Bus) (a : Word) (v : Byte) (h : 0x8000 ≤ a.toNat) :
    (a.toNat = addrP1 ∧ (b.write a v).mem = b.mem) ∨
    (a.toNat ≠ addrP1 ∧ a.toNat ≠ addrDMA ∧
      ∃ w, (b.write a v).mem = b.mem.write (storageKey a) w ∧
        w = if a.toNat = addrDIV ∨ a.toNat = addrLY then 0x00#8
            else if a.toNat = addrIF ∨ a.toNat = addrIE then v &&& 0x1F#8 else v) ∨
    (a.toNat = addrLCDC ∧ (b.mem.read addrLCDC).getLsbD 7 ≠ v.getLsbD 7 ∧
      (b.write a v).mem = (b.mem.write (storageKey a) v).write addrLY 0x00#8) ∨
    (a.toNat = addrDMA ∧
      ∃ n, n = 160 ∧ (b.write a v).mem = (b.store a v).dmaMem (joinBytes v 0x00#8) n) := by
  have eq : (b.write a v).mem = if 0xFF00 ≤ a.toNat then (b.writeIo a v).mem else b.mem.write (storageKey a) v := by
    simp only [Bus.write]
    rw [if_neg (by omega)]
    split
    · rfl
    · split <;> rfl
  rw [eq]
  by_cases hio : 0xFF00 ≤ a.toNat
  · rw [if_pos hio]
    unfold Bus.writeIo
    by_cases h1 : a.toNat = addrP1
    · rw [if_pos h1]; exact .inl ⟨h1, rfl⟩
    rw [if_neg h1]
    by_cases h2 : a.toNat = addrDIV
    · rw [if_pos h2]
      exact .inr (.inl ⟨h1, by rw [h2]; decide, 0x00#8, rfl, by rw [if_pos (.inl h2)]⟩)
    rw [if_neg h2]
    by_cases h3 : a.toNat = addrLY
    · rw [if_pos h3]
      exact .inr (.inl ⟨h1, by rw [h3]; decide, 0x00#8, rfl, by rw [if_pos (.inr h3)]⟩)
    rw [if_neg h3]
    have hn : ¬ (a.toNat = addrDIV ∨ a.toNat = addrLY) := by simp [h2, h3]
    by_cases h4 : a.toNat = addrLCDC
    · rw [if_pos h4]
      by_cases h5 : (b.mem.read addrLCDC).getLsbD 7 = v.getLsbD 7
      · refine .inr (.inl ⟨h1, by rw [h4]; decide, v, ?_, ?_⟩)
        · simp only [Bus.writeLcdc, h5, bne_self_eq_false]; rfl
        · rw [if_neg hn, if_neg (by rw [h4]; decide)]
      · refine .inr (.inr (.inl ⟨h4, h5, ?_⟩))
        simp only [Bus.writeLcdc, bne_iff_ne, ne_eq, h5, not_false_eq_true, if_true]
    rw [if_neg h4]
    by_cases h5 : a.toNat = addrSTAT
    · rw [if_pos h5]
      exact .inr (.inl ⟨h1, by rw [h5]; decide, v, rfl, by rw [if_neg hn, if_neg (by rw [h5]; decide)]⟩)
    rw [if_neg h5]
    by_cases h6 : a.toNat = addrDMA
    · rw [if_pos h6]
      exact .inr (.inr (.inr ⟨h6, 160, rfl, Bus.copyOam_mem _ _⟩))
    rw [if_neg h6]
    by_cases h7 : a.toNat = addrBGP
    · rw [if_pos h7]
      exact .inr (.inl ⟨h1, h6, v, rfl, by rw [if_neg hn, if_neg (by rw [h7]; decide)]⟩)
    rw [if_neg h7]
    by_cases h8 : a.toNat = addrOBP0
    · rw [if_pos h8]
      exact .inr (.inl ⟨h1, h6, v, rfl, by rw [if_neg hn, if_neg (by rw [h8]; decide)]⟩)
    rw [if_neg h8]
    by_cases h9 : a.toNat = addrOBP1
    · rw [if_pos h9]
      exact .inr (.inl ⟨h1, h6, v, rfl, by rw [if_neg hn, if_neg (by rw [h9]; decide)]⟩)
    rw [if_neg h9]
    by_cases h10 : a.toNat = addrIF ∨ a.toNat = addrIE
    · rw [if_pos h10]
      exact .inr (.inl ⟨h1, h6, _, rfl, by rw [if_neg hn, if_pos h10]⟩)
    · rw [if_neg h10]
      exact .inr (.inl ⟨h1, h6, v, rfl, by rw [if_neg hn, if_neg h10]⟩)
  · rw [if_neg hio]
    refine .inr (.inl ⟨by simp only [addrP1]; omega, by simp only [addrDMA]; omega, v, rfl, ?_⟩)
    rw [if_neg (by simp only [addrDIV, addrLY]; omega), if_neg (by simp only [addrIF, addrIE]; omega)]

/-- Plain storage stores the byte. -/
theorem Bus.write_mem_plain (b : Bus) (a : Word) (v : Byte) (h : plainStorage a) :
    (b.write a v).mem = b.mem.write (storageKey a) v := by
  obtain ⟨h1, h2⟩ := h
  simp only [List.mem_cons, List.not_mem_nil, or_false, not_or] at h2
  rcases b.write_mem_cases a v h1 with ⟨e, -⟩ | ⟨-, -, w, e, ew⟩ | ⟨e, -, -⟩ | ⟨e, -⟩
  · exact absurd e h2.1
  · rw [e, ew, if_neg (by simp [h2]), if_neg (by simp [h2])]
  · exact absurd e h2.2.2.2.1
  · exact absurd e h2.2.2.2.2.2.2.1

/-- A bus write keeps storage canonical. -/
theorem Bus.wf_write (b : Bus) (a : Word) (v : Byte) (h : b.mem.wf) : (b.write a v).mem.wf := by
  by_cases ha : 0x8000 ≤ a.toNat
  · rcases b.write_mem_cases a v ha with ⟨-, e⟩ | ⟨-, -, w, e, -⟩ | ⟨-, -, e⟩ | ⟨-, n, -, e⟩ <;> rw [e]
    · exact h
    · exact Memory.wf_write h _ _
    · exact Memory.wf_write (Memory.wf_write h _ _) _ _
    · exact wf_dmaMem _ _ _ (Memory.wf_write h _ _)
  · rw [b.write_mem_low a v (by omega)]; exact h

/-- Every key of storage after a bus write was a key before it or is a storage key. -/
theorem Bus.write_keys (b : Bus) (a : Word) (v : Byte) (h : ∀ x ∈ b.mem, isStorageKey x.1) :
    ∀ x ∈ (b.write a v).mem, isStorageKey x.1 := by
  intro x hx
  by_cases ha : 0x8000 ≤ a.toNat
  · have hk := storageKey_isStorageKey ha
    have one : ∀ (w : Byte), ∀ y ∈ b.mem.write (storageKey a) w, isStorageKey y.1 := by
      intro w y hy
      rcases Memory.mem_write hy with hy | ⟨rfl, -⟩
      · exact h y hy
      · exact hk
    rcases b.write_mem_cases a v ha with ⟨-, e⟩ | ⟨-, -, w, e, -⟩ | ⟨-, -, e⟩ | ⟨-, n, hn, e⟩ <;> rw [e] at hx
    · exact h x hx
    · exact one w x hx
    · rcases Memory.mem_write hx with hx | ⟨rfl, -⟩
      · exact one v x hx
      · decide
    · rcases mem_dmaMem hx with hx | hx
      · exact one v x hx
      · simp only [isStorageKey]; omega
  · rw [b.write_mem_low a v (by omega)] at hx; exact h x hx

/-! ## The frame of a write -/

/-- A read that `writeMayChange` does not name gives what it gave. -/
theorem Bus.read_write_of_not_mayChange (b : Bus) (a : Word) (v : Byte) (x : Word) (h : ¬ b.writeMayChange a v x) :
    (b.write a v).read x = b.read x := by
  simp only [Bus.writeMayChange] at h
  by_cases ha : 0x8000 ≤ a.toNat
  · rw [if_neg (by omega)] at h
    simp only [not_or, not_and] at h
    refine Bus.read_congr _ _ _ (by simp) (by simp) (by simp) (b.write_bank_high a v ha) fun hx => ?_
    have hk : a.toNat ≠ addrP1 → storageKey x ≠ storageKey a := fun hp => h.1 hp hx
    rcases b.write_mem_cases a v ha with ⟨-, e⟩ | ⟨hp, -, w, e, -⟩ | ⟨hl, ht, e⟩ | ⟨hd, n, hn, e⟩ <;> rw [e]
    · exact Memory.read_write_of_ne _ _ (hk hp)
    · have hly : x.toNat ≠ addrLY := h.2.1 hl ht
      have hxl : storageKey x ≠ addrLY := by
        simp only [storageKey, addrLY] at *; split <;> omega
      rw [Memory.read_write_of_ne _ _ hxl]
      exact Memory.read_write_of_ne _ _ (hk (by rw [hl]; decide))
    · have hd' := h.2.2 hd
      rw [read_dmaMem_of_outside]
      · exact Memory.read_write_of_ne _ _ (hk (by rw [hd]; decide))
      · simp only [storageKey]
        split
        · omega
        · by_cases hx' : 0xFE00 ≤ x.toNat
          · have := hd' hx'; omega
          · omega
  · rw [if_pos (by omega)] at h
    rw [b.write_low a v (by omega)]
    rcases b.writeRom_cases a v with e | ⟨hc, h1, h2, n, -, e⟩ | ⟨-, e⟩
    · rw [e]
    · rw [e]
      have hx : ¬ (0x4000 ≤ x.toNat ∧ x.toNat ≤ 0x7FFF) := fun hx => h ⟨hc, h1, h2, hx.1, hx.2⟩
      simp only [Bus.read]
      split
      · rfl
      · rw [if_neg (by omega), if_neg (by omega)]
    · rw [e]; rfl

/-- A read of plain storage after a write to it, through either address of a mirrored pair (R85, R86). -/
theorem Bus.read_write_plain (b : Bus) (a : Word) (v : Byte) (x : Word) (hb : b.mem.wf) (h : plainStorage a)
    (hx : 0x8000 ≤ x.toNat) (hk : storageKey x = storageKey a) : (b.write a v).read x = v := by
  rw [Bus.read_high _ hx, b.write_mem_plain a v h, hk, Memory.read_write_self hb]

/-! ## The invariant -/

theorem and_1F_lt (v : Byte) : (v &&& 0x1F#8).toNat < 0x20 := by
  have : (v &&& 0x1F#8).toNat ≤ 0x1F := by
    rw [BitVec.toNat_and]; exact Nat.and_le_right
  omega

/-- A write keeps bits 7:5 of IE and IF zero (R81, R82). -/
theorem Bus.write_masks (b : Bus) (a : Word) (v : Byte) (hb : b.mem.wf) (h : b.MasksOk) : (b.write a v).MasksOk := by
  by_cases ha : 0x8000 ≤ a.toNat
  · have one : ∀ k, k = addrIE ∨ k = addrIF → (b.mem.read k).toNat < 0x20 → ((b.write a v).mem.read k).toNat < 0x20 := by
      intro k hk h
      have key : ∀ w : Byte, (a.toNat = k → w.toNat < 0x20) → ((b.mem.write (storageKey a) w).read k).toNat < 0x20 := by
        intro w hw
        rw [Memory.read_write hb]
        split
        · rename_i e
          refine hw ?_
          rcases hk with rfl | rfl <;> simp only [storageKey, addrIE, addrIF] at * <;> split at e <;> omega
        · exact h
      rcases b.write_mem_cases a v ha with ⟨-, e⟩ | ⟨-, -, w, e, ew⟩ | ⟨hl, -, e⟩ | ⟨hd, n, hn, e⟩ <;> rw [e]
      · exact h
      · refine key w fun hak => ?_
        rw [ew, if_neg (by rcases hk with rfl | rfl <;> rw [hak] <;> decide),
          if_pos (by rcases hk with rfl | rfl <;> simp [hak])]
        exact and_1F_lt v
      · rw [Memory.read_write_of_ne _ _ (by rcases hk with rfl | rfl <;> decide)]
        exact key v fun hak => by rcases hk with rfl | rfl <;> rw [hl] at hak <;> exact absurd hak (by decide)
      · rw [read_dmaMem_of_outside _ _ _ _ (by subst hn; rcases hk with rfl | rfl <;> decide)]
        exact key v fun hak => by rcases hk with rfl | rfl <;> rw [hd] at hak <;> exact absurd hak (by decide)
    exact ⟨one _ (.inl rfl) h.ie_mask, one _ (.inr rfl) h.if_mask⟩
  · exact ⟨by rw [b.write_mem_low a v (by omega)]; exact h.ie_mask, by rw [b.write_mem_low a v (by omega)]; exact h.if_mask⟩

theorem Bus.write_bankOk (b : Bus) (a : Word) (v : Byte) (h : b.BankOk) : (b.write a v).BankOk := by
  by_cases ha : 0x8000 ≤ a.toNat
  · obtain ⟨m, l, st, g, o0, o1, j, d, e⟩ := b.write_high_shape a v ha
    rw [e]; exact ⟨h.bank_nonzero, h.none_bank, h.none_mode⟩
  · rw [b.write_low a v (by omega)]
    rcases b.writeRom_cases a v with e | ⟨hc, -, -, n, hn, e⟩ | ⟨hc, e⟩
    · rw [e]; exact h
    · rw [e]; exact ⟨hn, fun h' => by simp [hc] at h', h.none_mode⟩
    · rw [e]; exact ⟨h.bank_nonzero, h.none_bank, fun h' => by simp [hc] at h'⟩

theorem Bus.write_marks (b : Bus) (a : Word) (v : Byte) (h : b.MarksOk) : (b.write a v).MarksOk := by
  by_cases ha : 0x8000 ≤ a.toNat
  · simp only [Bus.write]
    rw [if_neg (by omega)]
    split
    · obtain ⟨m, l, st, g, o0, o1, j, e⟩ := b.writeIo_shape a v
      rw [e]; exact ⟨h.rising, h.inVram⟩
    · split
      · refine ⟨insertAddress_rising h.rising, fun k hk => ?_⟩
        rcases insertAddress_mem.1 hk with rfl | hk
        · omega
        · exact h.inVram k hk
      · exact ⟨h.rising, h.inVram⟩
  · rw [b.write_low a v (by omega)]
    rcases b.writeRom_cases a v with e | ⟨hc, -, -, n, hn, e⟩ | ⟨hc, e⟩ <;> rw [e] <;> exact ⟨h.rising, h.inVram⟩

/-- A bus write keeps the invariant. -/
theorem Bus.Ok.write {b : Bus} (h : b.Ok) (a : Word) (v : Byte) : (b.write a v).Ok where
  storage :=
    { mem_wf := b.wf_write a v h.storage.mem_wf
      rom_wf := by rw [Bus.write_rom]; exact h.storage.rom_wf
      mem_keys := b.write_keys a v h.storage.mem_keys
      rom_keys := by rw [Bus.write_rom, Bus.write_romSize]; exact h.storage.rom_keys }
  image :=
    { multiple := by rw [Bus.write_romSize]; exact h.image.multiple
      large := by rw [Bus.write_romSize]; exact h.image.large }
  bank := b.write_bankOk a v h.bank
  masks := b.write_masks a v h.storage.mem_wf h.masks
  marks := b.write_marks a v h.marks

/-- Counting a free value keeps the invariant. -/
theorem Bus.Ok.freeReads {b : Bus} (h : b.Ok) (n : Nat) : ({ b with freeReads := n } : Bus).Ok :=
  ⟨⟨h.storage.mem_wf, h.storage.rom_wf, h.storage.mem_keys, h.storage.rom_keys⟩, ⟨h.image.multiple, h.image.large⟩,
    ⟨h.bank.bank_nonzero, h.bank.none_bank, h.bank.none_mode⟩, ⟨h.masks.ie_mask, h.masks.if_mask⟩,
    ⟨h.marks.rising, h.marks.inVram⟩⟩

/-- Forgetting the joypad output keeps the invariant. -/
theorem Bus.Ok.joypadOut {b : Bus} (h : b.Ok) (j : List Byte) : ({ b with joypadOut := j } : Bus).Ok :=
  ⟨⟨h.storage.mem_wf, h.storage.rom_wf, h.storage.mem_keys, h.storage.rom_keys⟩, ⟨h.image.multiple, h.image.large⟩,
    ⟨h.bank.bank_nonzero, h.bank.none_bank, h.bank.none_mode⟩, ⟨h.masks.ie_mask, h.masks.if_mask⟩,
    ⟨h.marks.rising, h.marks.inVram⟩⟩

/-- Storing a byte whose key is a storage key, masked where IE and IF are concerned, keeps the invariant. -/
theorem Bus.Ok.memWrite {b : Bus} (h : b.Ok) (k : Nat) (v : Byte) (hk : isStorageKey k)
    (hm : k = addrIE ∨ k = addrIF → v.toNat < 0x20) : ({ b with mem := b.mem.write k v } : Bus).Ok where
  storage :=
    { mem_wf := Memory.wf_write h.storage.mem_wf k v
      rom_wf := h.storage.rom_wf
      mem_keys := fun x hx => by
        rcases Memory.mem_write hx with hx | ⟨rfl, -⟩
        · exact h.storage.mem_keys x hx
        · exact hk
      rom_keys := h.storage.rom_keys }
  image := ⟨h.image.multiple, h.image.large⟩
  bank := ⟨h.bank.bank_nonzero, h.bank.none_bank, h.bank.none_mode⟩
  masks :=
    { ie_mask := by
        rw [Memory.read_write h.storage.mem_wf]
        split
        · exact hm (.inl (Eq.symm ‹_›))
        · exact h.masks.ie_mask
      if_mask := by
        rw [Memory.read_write h.storage.mem_wf]
        split
        · exact hm (.inr (Eq.symm ‹_›))
        · exact h.masks.if_mask }
  marks := ⟨h.marks.rising, h.marks.inVram⟩

end Sys2Proof.Machine
end

