-- ==== Sys2Proof/Laws/Forms.lean ====
section
/-! SUPPORT. Every meaning is one of 56 shared operations. `Form` names them, `formOf` says which one an instruction is,
and `exec_eq_form` is the lemma through which a proof over all instructions becomes a case analysis over forms. -/

namespace Sys2Proof.Machine

/-- Where `LD A,(..)` and `LD (..),A` find their address. -/
inductive AAddr where
  | bc
  | de
  | abs (w : Word)
  | page (n : Byte)
  | pageC
deriving DecidableEq, Repr

/-- The address. -/
def AAddr.addr (s : State) : AAddr → Word
  | .bc => s.bc
  | .de => s.de
  | .abs w => w
  | .page n => ioAddress n
  | .pageC => ioAddress s.c

/-- The cycles of the access. -/
def AAddr.cost : AAddr → Nat
  | .bc => 8
  | .de => 8
  | .abs _ => 16
  | .page _ => 12
  | .pageC => 8

/-- The shared operations, each with its operands. -/
inductive Form where
  | loadRegReg (dst r : Reg8)
  | loadRegImm (dst : Reg8) (n : Byte)
  | loadRegAtHL (dst : Reg8)
  | storeRegAtHL (r : Reg8)
  | storeImmAtHL (n : Byte)
  | loadA (x : AAddr)
  | storeA (x : AAddr)
  | loadAMove (by' : Word)
  | storeAMove (by' : Word)
  | loadPairImm (p : Pair) (w : Word)
  | storeSP (w : Word)
  | loadSPHL
  | incRegister (r : Reg8)
  | decRegister (r : Reg8)
  | incMemory
  | decMemory
  | incPairBy (by' : Word) (p : Pair)
  | aluRegister (o : AluOp) (r : Reg8)
  | aluMemory (o : AluOp)
  | aluImmediate (o : AluOp) (n : Byte)
  | addHL (p : Pair)
  | addSP (e : Byte)
  | loadHLSP (e : Byte)
  | rotateAcc (o : ShiftOp)
  | shiftRegister (o : ShiftOp) (r : Reg8)
  | shiftMemory (o : ShiftOp)
  | testRegisterBit (b : Fin 8) (r : Reg8)
  | testMemoryBit (b : Fin 8)
  | resetRegisterBit (b : Fin 8) (r : Reg8)
  | resetMemoryBit (b : Fin 8)
  | setRegisterBit (b : Fin 8) (r : Reg8)
  | setMemoryBit (b : Fin 8)
  | jump (t : Word)
  | jumpIf (cc : Cond) (t : Word)
  | jumpHL
  | jumpRelative (e : Byte)
  | jumpRelativeIf (cc : Cond) (e : Byte)
  | call (t : Word)
  | callIf (cc : Cond) (t : Word)
  | ret
  | retIf (cc : Cond)
  | reti
  | restart (t : Word)
  | pushPair (p : StackPair)
  | popPair (p : StackPair)
  | decimalAdjust
  | complementA
  | setCarry
  | complementCarry
  | disableInterrupts
  | enableInterrupts
  | halt
  | stop
  | nop
  | unassigned (byte : Byte)
  | prefixCB
deriving DecidableEq, Repr

/-- What a form does. -/
def Form.run (s : State) : Form → State
  | .loadRegReg dst r => Sys2Proof.Machine.loadRegReg dst r s
  | .loadRegImm dst n => Sys2Proof.Machine.loadRegImm dst n s
  | .loadRegAtHL dst => Sys2Proof.Machine.loadRegAtHL dst s
  | .storeRegAtHL r => Sys2Proof.Machine.storeRegAtHL r s
  | .storeImmAtHL n => Sys2Proof.Machine.storeImmAtHL n s
  | .loadA x => Sys2Proof.Machine.loadA (x.addr s) x.cost s
  | .storeA x => Sys2Proof.Machine.storeA (x.addr s) x.cost s
  | .loadAMove by' => moveHL by' (Sys2Proof.Machine.loadA s.hl 8 s)
  | .storeAMove by' => moveHL by' (Sys2Proof.Machine.storeA s.hl 8 s)
  | .loadPairImm p w => Sys2Proof.Machine.loadPairImm p w s
  | .storeSP w => Sys2Proof.Machine.storeSP w s
  | .loadSPHL => Sys2Proof.Machine.loadSPHL s
  | .incRegister r => Sys2Proof.Machine.incRegister r s
  | .decRegister r => Sys2Proof.Machine.decRegister r s
  | .incMemory => Sys2Proof.Machine.incMemory s
  | .decMemory => Sys2Proof.Machine.decMemory s
  | .incPairBy by' p => Sys2Proof.Machine.incPairBy by' p s
  | .aluRegister o r => Sys2Proof.Machine.aluRegister o r s
  | .aluMemory o => Sys2Proof.Machine.aluMemory o s
  | .aluImmediate o n => Sys2Proof.Machine.aluImmediate o n s
  | .addHL p => Sys2Proof.Machine.addHL p s
  | .addSP e => Sys2Proof.Machine.addSP e s
  | .loadHLSP e => Sys2Proof.Machine.loadHLSP e s
  | .rotateAcc o => Sys2Proof.Machine.rotateAcc o s
  | .shiftRegister o r => Sys2Proof.Machine.shiftRegister o r s
  | .shiftMemory o => Sys2Proof.Machine.shiftMemory o s
  | .testRegisterBit b r => Sys2Proof.Machine.testRegisterBit b r s
  | .testMemoryBit b => Sys2Proof.Machine.testMemoryBit b s
  | .resetRegisterBit b r => Sys2Proof.Machine.resetRegisterBit b r s
  | .resetMemoryBit b => Sys2Proof.Machine.resetMemoryBit b s
  | .setRegisterBit b r => Sys2Proof.Machine.setRegisterBit b r s
  | .setMemoryBit b => Sys2Proof.Machine.setMemoryBit b s
  | .jump t => Sys2Proof.Machine.jump t s
  | .jumpIf cc t => Sys2Proof.Machine.jumpIf cc t s
  | .jumpHL => Sys2Proof.Machine.jumpHL s
  | .jumpRelative e => Sys2Proof.Machine.jumpRelative e s
  | .jumpRelativeIf cc e => Sys2Proof.Machine.jumpRelativeIf cc e s
  | .call t => Sys2Proof.Machine.call t s
  | .callIf cc t => Sys2Proof.Machine.callIf cc t s
  | .ret => Sys2Proof.Machine.ret s
  | .retIf cc => Sys2Proof.Machine.retIf cc s
  | .reti => Sys2Proof.Machine.reti s
  | .restart t => Sys2Proof.Machine.restart t s
  | .pushPair p => Sys2Proof.Machine.pushPair p s
  | .popPair p => Sys2Proof.Machine.popPair p s
  | .decimalAdjust => Sys2Proof.Machine.decimalAdjust s
  | .complementA => Sys2Proof.Machine.complementA s
  | .setCarry => Sys2Proof.Machine.setCarry s
  | .complementCarry => Sys2Proof.Machine.complementCarry s
  | .disableInterrupts => Sys2Proof.Machine.disableInterrupts s
  | .enableInterrupts => Sys2Proof.Machine.enableInterrupts s
  | .halt => Sys2Proof.Machine.halt s
  | .stop => Sys2Proof.Machine.stop s
  | .nop => Sys2Proof.Machine.nop s
  | .unassigned byte => Sys2Proof.Machine.unassigned byte s
  | .prefixCB => Sys2Proof.Machine.prefixCB s

/-- The form of an instruction. -/
def formOf : Instr → Form
  | .nop => .nop
  | .ldBCD16 w => .loadPairImm .bc w
  | .ldAtBCA => .storeA .bc
  | .incBC => .incPairBy 1#16 .bc
  | .incB => .incRegister .b
  | .decB => .decRegister .b
  | .ldBD8 n => .loadRegImm .b n
  | .rlca => .rotateAcc .rlc
  | .ldAtA16SP w => .storeSP w
  | .addHLBC => .addHL .bc
  | .ldAAtBC => .loadA .bc
  | .decBC => .incPairBy (-1#16) .bc
  | .incC => .incRegister .c
  | .decC => .decRegister .c
  | .ldCD8 n => .loadRegImm .c n
  | .rrca => .rotateAcc .rrc
  | .stop => .stop
  | .ldDED16 w => .loadPairImm .de w
  | .ldAtDEA => .storeA .de
  | .incDE => .incPairBy 1#16 .de
  | .incD => .incRegister .d
  | .decD => .decRegister .d
  | .ldDD8 n => .loadRegImm .d n
  | .rla => .rotateAcc .rl
  | .jrE8 e => .jumpRelative e
  | .addHLDE => .addHL .de
  | .ldAAtDE => .loadA .de
  | .decDE => .incPairBy (-1#16) .de
  | .incE => .incRegister .e
  | .decE => .decRegister .e
  | .ldED8 n => .loadRegImm .e n
  | .rra => .rotateAcc .rr
  | .jrNZE8 e => .jumpRelativeIf .nz e
  | .ldHLD16 w => .loadPairImm .hl w
  | .ldAtHLIncA => .storeAMove 1#16
  | .incHL => .incPairBy 1#16 .hl
  | .incH => .incRegister .h
  | .decH => .decRegister .h
  | .ldHD8 n => .loadRegImm .h n
  | .daa => .decimalAdjust
  | .jrZE8 e => .jumpRelativeIf .z e
  | .addHLHL => .addHL .hl
  | .ldAAtHLInc => .loadAMove 1#16
  | .decHL => .incPairBy (-1#16) .hl
  | .incL => .incRegister .l
  | .decL => .decRegister .l
  | .ldLD8 n => .loadRegImm .l n
  | .cpl => .complementA
  | .jrNCE8 e => .jumpRelativeIf .nc e
  | .ldSPD16 w => .loadPairImm .sp w
  | .ldAtHLDecA => .storeAMove (-1#16)
  | .incSP => .incPairBy 1#16 .sp
  | .incAtHL => .incMemory
  | .decAtHL => .decMemory
  | .ldAtHLD8 n => .storeImmAtHL n
  | .scf => .setCarry
  | .jrCE8 e => .jumpRelativeIf .c e
  | .addHLSP => .addHL .sp
  | .ldAAtHLDec => .loadAMove (-1#16)
  | .decSP => .incPairBy (-1#16) .sp
  | .incA => .incRegister .a
  | .decA => .decRegister .a
  | .ldAD8 n => .loadRegImm .a n
  | .ccf => .complementCarry
  | .ldBB => .loadRegReg .b .b
  | .ldBC => .loadRegReg .b .c
  | .ldBD => .loadRegReg .b .d
  | .ldBE => .loadRegReg .b .e
  | .ldBH => .loadRegReg .b .h
  | .ldBL => .loadRegReg .b .l
  | .ldBAtHL => .loadRegAtHL .b
  | .ldBA => .loadRegReg .b .a
  | .ldCB => .loadRegReg .c .b
  | .ldCC => .loadRegReg .c .c
  | .ldCD => .loadRegReg .c .d
  | .ldCE => .loadRegReg .c .e
  | .ldCH => .loadRegReg .c .h
  | .ldCL => .loadRegReg .c .l
  | .ldCAtHL => .loadRegAtHL .c
  | .ldCA => .loadRegReg .c .a
  | .ldDB => .loadRegReg .d .b
  | .ldDC => .loadRegReg .d .c
  | .ldDD => .loadRegReg .d .d
  | .ldDE => .loadRegReg .d .e
  | .ldDH => .loadRegReg .d .h
  | .ldDL => .loadRegReg .d .l
  | .ldDAtHL => .loadRegAtHL .d
  | .ldDA => .loadRegReg .d .a
  | .ldEB => .loadRegReg .e .b
  | .ldEC => .loadRegReg .e .c
  | .ldED => .loadRegReg .e .d
  | .ldEE => .loadRegReg .e .e
  | .ldEH => .loadRegReg .e .h
  | .ldEL => .loadRegReg .e .l
  | .ldEAtHL => .loadRegAtHL .e
  | .ldEA => .loadRegReg .e .a
  | .ldHB => .loadRegReg .h .b
  | .ldHC => .loadRegReg .h .c
  | .ldHD => .loadRegReg .h .d
  | .ldHE => .loadRegReg .h .e
  | .ldHH => .loadRegReg .h .h
  | .ldHL => .loadRegReg .h .l
  | .ldHAtHL => .loadRegAtHL .h
  | .ldHA => .loadRegReg .h .a
  | .ldLB => .loadRegReg .l .b
  | .ldLC => .loadRegReg .l .c
  | .ldLD => .loadRegReg .l .d
  | .ldLE => .loadRegReg .l .e
  | .ldLH => .loadRegReg .l .h
  | .ldLL => .loadRegReg .l .l
  | .ldLAtHL => .loadRegAtHL .l
  | .ldLA => .loadRegReg .l .a
  | .ldAtHLB => .storeRegAtHL .b
  | .ldAtHLC => .storeRegAtHL .c
  | .ldAtHLD => .storeRegAtHL .d
  | .ldAtHLE => .storeRegAtHL .e
  | .ldAtHLH => .storeRegAtHL .h
  | .ldAtHLL => .storeRegAtHL .l
  | .halt => .halt
  | .ldAtHLA => .storeRegAtHL .a
  | .ldAB => .loadRegReg .a .b
  | .ldAC => .loadRegReg .a .c
  | .ldAD => .loadRegReg .a .d
  | .ldAE => .loadRegReg .a .e
  | .ldAH => .loadRegReg .a .h
  | .ldAL => .loadRegReg .a .l
  | .ldAAtHL => .loadRegAtHL .a
  | .ldAA => .loadRegReg .a .a
  | .addAB => .aluRegister .add .b
  | .addAC => .aluRegister .add .c
  | .addAD => .aluRegister .add .d
  | .addAE => .aluRegister .add .e
  | .addAH => .aluRegister .add .h
  | .addAL => .aluRegister .add .l
  | .addAAtHL => .aluMemory .add
  | .addAA => .aluRegister .add .a
  | .adcAB => .aluRegister .adc .b
  | .adcAC => .aluRegister .adc .c
  | .adcAD => .aluRegister .adc .d
  | .adcAE => .aluRegister .adc .e
  | .adcAH => .aluRegister .adc .h
  | .adcAL => .aluRegister .adc .l
  | .adcAAtHL => .aluMemory .adc
  | .adcAA => .aluRegister .adc .a
  | .subB => .aluRegister .sub .b
  | .subC => .aluRegister .sub .c
  | .subD => .aluRegister .sub .d
  | .subE => .aluRegister .sub .e
  | .subH => .aluRegister .sub .h
  | .subL => .aluRegister .sub .l
  | .subAtHL => .aluMemory .sub
  | .subA => .aluRegister .sub .a
  | .sbcAB => .aluRegister .sbc .b
  | .sbcAC => .aluRegister .sbc .c
  | .sbcAD => .aluRegister .sbc .d
  | .sbcAE => .aluRegister .sbc .e
  | .sbcAH => .aluRegister .sbc .h
  | .sbcAL => .aluRegister .sbc .l
  | .sbcAAtHL => .aluMemory .sbc
  | .sbcAA => .aluRegister .sbc .a
  | .andB => .aluRegister .and .b
  | .andC => .aluRegister .and .c
  | .andD => .aluRegister .and .d
  | .andE => .aluRegister .and .e
  | .andH => .aluRegister .and .h
  | .andL => .aluRegister .and .l
  | .andAtHL => .aluMemory .and
  | .andA => .aluRegister .and .a
  | .xorB => .aluRegister .xor .b
  | .xorC => .aluRegister .xor .c
  | .xorD => .aluRegister .xor .d
  | .xorE => .aluRegister .xor .e
  | .xorH => .aluRegister .xor .h
  | .xorL => .aluRegister .xor .l
  | .xorAtHL => .aluMemory .xor
  | .xorA => .aluRegister .xor .a
  | .orB => .aluRegister .or .b
  | .orC => .aluRegister .or .c
  | .orD => .aluRegister .or .d
  | .orE => .aluRegister .or .e
  | .orH => .aluRegister .or .h
  | .orL => .aluRegister .or .l
  | .orAtHL => .aluMemory .or
  | .orA => .aluRegister .or .a
  | .cpB => .aluRegister .cp .b
  | .cpC => .aluRegister .cp .c
  | .cpD => .aluRegister .cp .d
  | .cpE => .aluRegister .cp .e
  | .cpH => .aluRegister .cp .h
  | .cpL => .aluRegister .cp .l
  | .cpAtHL => .aluMemory .cp
  | .cpA => .aluRegister .cp .a
  | .retNZ => .retIf .nz
  | .popBC => .popPair .bc
  | .jpNZA16 w => .jumpIf .nz w
  | .jpA16 w => .jump w
  | .callNZA16 w => .callIf .nz w
  | .pushBC => .pushPair .bc
  | .addAD8 n => .aluImmediate .add n
  | .rst00 => .restart 0x0000#16
  | .retZ => .retIf .z
  | .ret => .ret
  | .jpZA16 w => .jumpIf .z w
  | .prefixCB => .prefixCB
  | .callZA16 w => .callIf .z w
  | .callA16 w => .call w
  | .adcAD8 n => .aluImmediate .adc n
  | .rst08 => .restart 0x0008#16
  | .retNC => .retIf .nc
  | .popDE => .popPair .de
  | .jpNCA16 w => .jumpIf .nc w
  | .illegalD3 => .unassigned 0xD3#8
  | .callNCA16 w => .callIf .nc w
  | .pushDE => .pushPair .de
  | .subD8 n => .aluImmediate .sub n
  | .rst10 => .restart 0x0010#16
  | .retC => .retIf .c
  | .reti => .reti
  | .jpCA16 w => .jumpIf .c w
  | .illegalDB => .unassigned 0xDB#8
  | .callCA16 w => .callIf .c w
  | .illegalDD => .unassigned 0xDD#8
  | .sbcAD8 n => .aluImmediate .sbc n
  | .rst18 => .restart 0x0018#16
  | .ldhAtA8A n => .storeA (.page n)
  | .popHL => .popPair .hl
  | .ldAtCA => .storeA .pageC
  | .illegalE3 => .unassigned 0xE3#8
  | .illegalE4 => .unassigned 0xE4#8
  | .pushHL => .pushPair .hl
  | .andD8 n => .aluImmediate .and n
  | .rst20 => .restart 0x0020#16
  | .addSPE8 e => .addSP e
  | .jpAtHL => .jumpHL
  | .ldAtA16A w => .storeA (.abs w)
  | .illegalEB => .unassigned 0xEB#8
  | .illegalEC => .unassigned 0xEC#8
  | .illegalED => .unassigned 0xED#8
  | .xorD8 n => .aluImmediate .xor n
  | .rst28 => .restart 0x0028#16
  | .ldhAAtA8 n => .loadA (.page n)
  | .popAF => .popPair .af
  | .ldAAtC => .loadA .pageC
  | .di => .disableInterrupts
  | .illegalF4 => .unassigned 0xF4#8
  | .pushAF => .pushPair .af
  | .orD8 n => .aluImmediate .or n
  | .rst30 => .restart 0x0030#16
  | .ldHLSPE8 e => .loadHLSP e
  | .ldSPHL => .loadSPHL
  | .ldAAtA16 w => .loadA (.abs w)
  | .ei => .enableInterrupts
  | .illegalFC => .unassigned 0xFC#8
  | .illegalFD => .unassigned 0xFD#8
  | .cpD8 n => .aluImmediate .cp n
  | .rst38 => .restart 0x0038#16
  | .rlcB => .shiftRegister .rlc .b
  | .rlcC => .shiftRegister .rlc .c
  | .rlcD => .shiftRegister .rlc .d
  | .rlcE => .shiftRegister .rlc .e
  | .rlcH => .shiftRegister .rlc .h
  | .rlcL => .shiftRegister .rlc .l
  | .rlcAtHL => .shiftMemory .rlc
  | .rlcA => .shiftRegister .rlc .a
  | .rrcB => .shiftRegister .rrc .b
  | .rrcC => .shiftRegister .rrc .c
  | .rrcD => .shiftRegister .rrc .d
  | .rrcE => .shiftRegister .rrc .e
  | .rrcH => .shiftRegister .rrc .h
  | .rrcL => .shiftRegister .rrc .l
  | .rrcAtHL => .shiftMemory .rrc
  | .rrcA => .shiftRegister .rrc .a
  | .rlB => .shiftRegister .rl .b
  | .rlC => .shiftRegister .rl .c
  | .rlD => .shiftRegister .rl .d
  | .rlE => .shiftRegister .rl .e
  | .rlH => .shiftRegister .rl .h
  | .rlL => .shiftRegister .rl .l
  | .rlAtHL => .shiftMemory .rl
  | .rlA => .shiftRegister .rl .a
  | .rrB => .shiftRegister .rr .b
  | .rrC => .shiftRegister .rr .c
  | .rrD => .shiftRegister .rr .d
  | .rrE => .shiftRegister .rr .e
  | .rrH => .shiftRegister .rr .h
  | .rrL => .shiftRegister .rr .l
  | .rrAtHL => .shiftMemory .rr
  | .rrA => .shiftRegister .rr .a
  | .slaB => .shiftRegister .sla .b
  | .slaC => .shiftRegister .sla .c
  | .slaD => .shiftRegister .sla .d
  | .slaE => .shiftRegister .sla .e
  | .slaH => .shiftRegister .sla .h
  | .slaL => .shiftRegister .sla .l
  | .slaAtHL => .shiftMemory .sla
  | .slaA => .shiftRegister .sla .a
  | .sraB => .shiftRegister .sra .b
  | .sraC => .shiftRegister .sra .c
  | .sraD => .shiftRegister .sra .d
  | .sraE => .shiftRegister .sra .e
  | .sraH => .shiftRegister .sra .h
  | .sraL => .shiftRegister .sra .l
  | .sraAtHL => .shiftMemory .sra
  | .sraA => .shiftRegister .sra .a
  | .swapB => .shiftRegister .swap .b
  | .swapC => .shiftRegister .swap .c
  | .swapD => .shiftRegister .swap .d
  | .swapE => .shiftRegister .swap .e
  | .swapH => .shiftRegister .swap .h
  | .swapL => .shiftRegister .swap .l
  | .swapAtHL => .shiftMemory .swap
  | .swapA => .shiftRegister .swap .a
  | .srlB => .shiftRegister .srl .b
  | .srlC => .shiftRegister .srl .c
  | .srlD => .shiftRegister .srl .d
  | .srlE => .shiftRegister .srl .e
  | .srlH => .shiftRegister .srl .h
  | .srlL => .shiftRegister .srl .l
  | .srlAtHL => .shiftMemory .srl
  | .srlA => .shiftRegister .srl .a
  | .bit0B => .testRegisterBit 0 .b
  | .bit0C => .testRegisterBit 0 .c
  | .bit0D => .testRegisterBit 0 .d
  | .bit0E => .testRegisterBit 0 .e
  | .bit0H => .testRegisterBit 0 .h
  | .bit0L => .testRegisterBit 0 .l
  | .bit0AtHL => .testMemoryBit 0
  | .bit0A => .testRegisterBit 0 .a
  | .bit1B => .testRegisterBit 1 .b
  | .bit1C => .testRegisterBit 1 .c
  | .bit1D => .testRegisterBit 1 .d
  | .bit1E => .testRegisterBit 1 .e
  | .bit1H => .testRegisterBit 1 .h
  | .bit1L => .testRegisterBit 1 .l
  | .bit1AtHL => .testMemoryBit 1
  | .bit1A => .testRegisterBit 1 .a
  | .bit2B => .testRegisterBit 2 .b
  | .bit2C => .testRegisterBit 2 .c
  | .bit2D => .testRegisterBit 2 .d
  | .bit2E => .testRegisterBit 2 .e
  | .bit2H => .testRegisterBit 2 .h
  | .bit2L => .testRegisterBit 2 .l
  | .bit2AtHL => .testMemoryBit 2
  | .bit2A => .testRegisterBit 2 .a
  | .bit3B => .testRegisterBit 3 .b
  | .bit3C => .testRegisterBit 3 .c
  | .bit3D => .testRegisterBit 3 .d
  | .bit3E => .testRegisterBit 3 .e
  | .bit3H => .testRegisterBit 3 .h
  | .bit3L => .testRegisterBit 3 .l
  | .bit3AtHL => .testMemoryBit 3
  | .bit3A => .testRegisterBit 3 .a
  | .bit4B => .testRegisterBit 4 .b
  | .bit4C => .testRegisterBit 4 .c
  | .bit4D => .testRegisterBit 4 .d
  | .bit4E => .testRegisterBit 4 .e
  | .bit4H => .testRegisterBit 4 .h
  | .bit4L => .testRegisterBit 4 .l
  | .bit4AtHL => .testMemoryBit 4
  | .bit4A => .testRegisterBit 4 .a
  | .bit5B => .testRegisterBit 5 .b
  | .bit5C => .testRegisterBit 5 .c
  | .bit5D => .testRegisterBit 5 .d
  | .bit5E => .testRegisterBit 5 .e
  | .bit5H => .testRegisterBit 5 .h
  | .bit5L => .testRegisterBit 5 .l
  | .bit5AtHL => .testMemoryBit 5
  | .bit5A => .testRegisterBit 5 .a
  | .bit6B => .testRegisterBit 6 .b
  | .bit6C => .testRegisterBit 6 .c
  | .bit6D => .testRegisterBit 6 .d
  | .bit6E => .testRegisterBit 6 .e
  | .bit6H => .testRegisterBit 6 .h
  | .bit6L => .testRegisterBit 6 .l
  | .bit6AtHL => .testMemoryBit 6
  | .bit6A => .testRegisterBit 6 .a
  | .bit7B => .testRegisterBit 7 .b
  | .bit7C => .testRegisterBit 7 .c
  | .bit7D => .testRegisterBit 7 .d
  | .bit7E => .testRegisterBit 7 .e
  | .bit7H => .testRegisterBit 7 .h
  | .bit7L => .testRegisterBit 7 .l
  | .bit7AtHL => .testMemoryBit 7
  | .bit7A => .testRegisterBit 7 .a
  | .res0B => .resetRegisterBit 0 .b
  | .res0C => .resetRegisterBit 0 .c
  | .res0D => .resetRegisterBit 0 .d
  | .res0E => .resetRegisterBit 0 .e
  | .res0H => .resetRegisterBit 0 .h
  | .res0L => .resetRegisterBit 0 .l
  | .res0AtHL => .resetMemoryBit 0
  | .res0A => .resetRegisterBit 0 .a
  | .res1B => .resetRegisterBit 1 .b
  | .res1C => .resetRegisterBit 1 .c
  | .res1D => .resetRegisterBit 1 .d
  | .res1E => .resetRegisterBit 1 .e
  | .res1H => .resetRegisterBit 1 .h
  | .res1L => .resetRegisterBit 1 .l
  | .res1AtHL => .resetMemoryBit 1
  | .res1A => .resetRegisterBit 1 .a
  | .res2B => .resetRegisterBit 2 .b
  | .res2C => .resetRegisterBit 2 .c
  | .res2D => .resetRegisterBit 2 .d
  | .res2E => .resetRegisterBit 2 .e
  | .res2H => .resetRegisterBit 2 .h
  | .res2L => .resetRegisterBit 2 .l
  | .res2AtHL => .resetMemoryBit 2
  | .res2A => .resetRegisterBit 2 .a
  | .res3B => .resetRegisterBit 3 .b
  | .res3C => .resetRegisterBit 3 .c
  | .res3D => .resetRegisterBit 3 .d
  | .res3E => .resetRegisterBit 3 .e
  | .res3H => .resetRegisterBit 3 .h
  | .res3L => .resetRegisterBit 3 .l
  | .res3AtHL => .resetMemoryBit 3
  | .res3A => .resetRegisterBit 3 .a
  | .res4B => .resetRegisterBit 4 .b
  | .res4C => .resetRegisterBit 4 .c
  | .res4D => .resetRegisterBit 4 .d
  | .res4E => .resetRegisterBit 4 .e
  | .res4H => .resetRegisterBit 4 .h
  | .res4L => .resetRegisterBit 4 .l
  | .res4AtHL => .resetMemoryBit 4
  | .res4A => .resetRegisterBit 4 .a
  | .res5B => .resetRegisterBit 5 .b
  | .res5C => .resetRegisterBit 5 .c
  | .res5D => .resetRegisterBit 5 .d
  | .res5E => .resetRegisterBit 5 .e
  | .res5H => .resetRegisterBit 5 .h
  | .res5L => .resetRegisterBit 5 .l
  | .res5AtHL => .resetMemoryBit 5
  | .res5A => .resetRegisterBit 5 .a
  | .res6B => .resetRegisterBit 6 .b
  | .res6C => .resetRegisterBit 6 .c
  | .res6D => .resetRegisterBit 6 .d
  | .res6E => .resetRegisterBit 6 .e
  | .res6H => .resetRegisterBit 6 .h
  | .res6L => .resetRegisterBit 6 .l
  | .res6AtHL => .resetMemoryBit 6
  | .res6A => .resetRegisterBit 6 .a
  | .res7B => .resetRegisterBit 7 .b
  | .res7C => .resetRegisterBit 7 .c
  | .res7D => .resetRegisterBit 7 .d
  | .res7E => .resetRegisterBit 7 .e
  | .res7H => .resetRegisterBit 7 .h
  | .res7L => .resetRegisterBit 7 .l
  | .res7AtHL => .resetMemoryBit 7
  | .res7A => .resetRegisterBit 7 .a
  | .set0B => .setRegisterBit 0 .b
  | .set0C => .setRegisterBit 0 .c
  | .set0D => .setRegisterBit 0 .d
  | .set0E => .setRegisterBit 0 .e
  | .set0H => .setRegisterBit 0 .h
  | .set0L => .setRegisterBit 0 .l
  | .set0AtHL => .setMemoryBit 0
  | .set0A => .setRegisterBit 0 .a
  | .set1B => .setRegisterBit 1 .b
  | .set1C => .setRegisterBit 1 .c
  | .set1D => .setRegisterBit 1 .d
  | .set1E => .setRegisterBit 1 .e
  | .set1H => .setRegisterBit 1 .h
  | .set1L => .setRegisterBit 1 .l
  | .set1AtHL => .setMemoryBit 1
  | .set1A => .setRegisterBit 1 .a
  | .set2B => .setRegisterBit 2 .b
  | .set2C => .setRegisterBit 2 .c
  | .set2D => .setRegisterBit 2 .d
  | .set2E => .setRegisterBit 2 .e
  | .set2H => .setRegisterBit 2 .h
  | .set2L => .setRegisterBit 2 .l
  | .set2AtHL => .setMemoryBit 2
  | .set2A => .setRegisterBit 2 .a
  | .set3B => .setRegisterBit 3 .b
  | .set3C => .setRegisterBit 3 .c
  | .set3D => .setRegisterBit 3 .d
  | .set3E => .setRegisterBit 3 .e
  | .set3H => .setRegisterBit 3 .h
  | .set3L => .setRegisterBit 3 .l
  | .set3AtHL => .setMemoryBit 3
  | .set3A => .setRegisterBit 3 .a
  | .set4B => .setRegisterBit 4 .b
  | .set4C => .setRegisterBit 4 .c
  | .set4D => .setRegisterBit 4 .d
  | .set4E => .setRegisterBit 4 .e
  | .set4H => .setRegisterBit 4 .h
  | .set4L => .setRegisterBit 4 .l
  | .set4AtHL => .setMemoryBit 4
  | .set4A => .setRegisterBit 4 .a
  | .set5B => .setRegisterBit 5 .b
  | .set5C => .setRegisterBit 5 .c
  | .set5D => .setRegisterBit 5 .d
  | .set5E => .setRegisterBit 5 .e
  | .set5H => .setRegisterBit 5 .h
  | .set5L => .setRegisterBit 5 .l
  | .set5AtHL => .setMemoryBit 5
  | .set5A => .setRegisterBit 5 .a
  | .set6B => .setRegisterBit 6 .b
  | .set6C => .setRegisterBit 6 .c
  | .set6D => .setRegisterBit 6 .d
  | .set6E => .setRegisterBit 6 .e
  | .set6H => .setRegisterBit 6 .h
  | .set6L => .setRegisterBit 6 .l
  | .set6AtHL => .setMemoryBit 6
  | .set6A => .setRegisterBit 6 .a
  | .set7B => .setRegisterBit 7 .b
  | .set7C => .setRegisterBit 7 .c
  | .set7D => .setRegisterBit 7 .d
  | .set7E => .setRegisterBit 7 .e
  | .set7H => .setRegisterBit 7 .h
  | .set7L => .setRegisterBit 7 .l
  | .set7AtHL => .setMemoryBit 7
  | .set7A => .setRegisterBit 7 .a

/-- Every meaning is its form. -/
theorem exec_eq_form (i : Instr) (s : State) : exec i s = .next ((formOf i).run s) := by
  cases i <;> rfl

end Sys2Proof.Machine
end

