-- ==== Sys2Proof/Laws/Exec.lean ====
section
/-! SUPPORT. What `exec` answers for each operand-indexed group of instructions, and the byte writes of a form. -/

namespace Sys2Proof.Machine

/-! ## One lemma per group -/

theorem formOf_ldReg (dst r : Reg8) : formOf (.ldReg dst r) = .loadRegReg dst r := by cases dst <;> cases r <;> rfl

theorem exec_ldReg (dst r : Reg8) (s : State) : exec (.ldReg dst r) s = .next (loadRegReg dst r s) := by
  rw [exec_eq_form, formOf_ldReg]; rfl

theorem formOf_ldRegImm (dst : Reg8) (n : Byte) : formOf (.ldRegImm dst n) = .loadRegImm dst n := by cases dst <;> rfl

theorem exec_ldRegImm (dst : Reg8) (n : Byte) (s : State) : exec (.ldRegImm dst n) s = .next (loadRegImm dst n s) := by
  rw [exec_eq_form, formOf_ldRegImm]; rfl

theorem formOf_ldRegAtHL (dst : Reg8) : formOf (.ldRegAtHL dst) = .loadRegAtHL dst := by cases dst <;> rfl

theorem exec_ldRegAtHL (dst : Reg8) (s : State) : exec (.ldRegAtHL dst) s = .next (loadRegAtHL dst s) := by
  rw [exec_eq_form, formOf_ldRegAtHL]; rfl

theorem formOf_ldAtHLReg (r : Reg8) : formOf (.ldAtHLReg r) = .storeRegAtHL r := by cases r <;> rfl

theorem exec_ldAtHLReg (r : Reg8) (s : State) : exec (.ldAtHLReg r) s = .next (storeRegAtHL r s) := by
  rw [exec_eq_form, formOf_ldAtHLReg]; rfl

theorem formOf_ldPairImm (p : Pair) (w : Word) : formOf (.ldPairImm p w) = .loadPairImm p w := by cases p <;> rfl

theorem exec_ldPairImm (p : Pair) (w : Word) (s : State) : exec (.ldPairImm p w) s = .next (loadPairImm p w s) := by
  rw [exec_eq_form, formOf_ldPairImm]; rfl

theorem formOf_incReg (r : Reg8) : formOf (.incReg r) = .incRegister r := by cases r <;> rfl

theorem exec_incReg (r : Reg8) (s : State) : exec (.incReg r) s = .next (incRegister r s) := by
  rw [exec_eq_form, formOf_incReg]; rfl

theorem formOf_decReg (r : Reg8) : formOf (.decReg r) = .decRegister r := by cases r <;> rfl

theorem exec_decReg (r : Reg8) (s : State) : exec (.decReg r) s = .next (decRegister r s) := by
  rw [exec_eq_form, formOf_decReg]; rfl

theorem formOf_incPair (p : Pair) : formOf (.incPair p) = .incPairBy 1#16 p := by cases p <;> rfl

theorem exec_incPair (p : Pair) (s : State) : exec (.incPair p) s = .next (incPairBy 1#16 p s) := by
  rw [exec_eq_form, formOf_incPair]; rfl

theorem formOf_decPair (p : Pair) : formOf (.decPair p) = .incPairBy (-1#16) p := by cases p <;> rfl

theorem exec_decPair (p : Pair) (s : State) : exec (.decPair p) s = .next (incPairBy (-1#16) p s) := by
  rw [exec_eq_form, formOf_decPair]; rfl

theorem formOf_aluReg (o : AluOp) (r : Reg8) : formOf (.aluReg o r) = .aluRegister o r := by cases o <;> cases r <;> rfl

theorem exec_aluReg (o : AluOp) (r : Reg8) (s : State) : exec (.aluReg o r) s = .next (aluRegister o r s) := by
  rw [exec_eq_form, formOf_aluReg]; rfl

theorem formOf_aluAtHL (o : AluOp) : formOf (.aluAtHL o) = .aluMemory o := by cases o <;> rfl

theorem exec_aluAtHL (o : AluOp) (s : State) : exec (.aluAtHL o) s = .next (aluMemory o s) := by
  rw [exec_eq_form, formOf_aluAtHL]; rfl

theorem formOf_aluImm (o : AluOp) (n : Byte) : formOf (.aluImm o n) = .aluImmediate o n := by cases o <;> rfl

theorem exec_aluImm (o : AluOp) (n : Byte) (s : State) : exec (.aluImm o n) s = .next (aluImmediate o n s) := by
  rw [exec_eq_form, formOf_aluImm]; rfl

theorem formOf_addHLPair (p : Pair) : formOf (.addHLPair p) = .addHL p := by cases p <;> rfl

theorem exec_addHLPair (p : Pair) (s : State) : exec (.addHLPair p) s = .next (addHL p s) := by
  rw [exec_eq_form, formOf_addHLPair]; rfl

theorem formOf_shiftReg (o : ShiftOp) (r : Reg8) : formOf (.shiftReg o r) = .shiftRegister o r := by cases o <;> cases r <;> rfl

theorem exec_shiftReg (o : ShiftOp) (r : Reg8) (s : State) : exec (.shiftReg o r) s = .next (shiftRegister o r s) := by
  rw [exec_eq_form, formOf_shiftReg]; rfl

theorem formOf_shiftAtHL (o : ShiftOp) : formOf (.shiftAtHL o) = .shiftMemory o := by cases o <;> rfl

theorem exec_shiftAtHL (o : ShiftOp) (s : State) : exec (.shiftAtHL o) s = .next (shiftMemory o s) := by
  rw [exec_eq_form, formOf_shiftAtHL]; rfl

theorem formOf_bitReg (b : Fin 8) (r : Reg8) : formOf (.bitReg b r) = .testRegisterBit b r := by fin_cases b <;> cases r <;> rfl

theorem exec_bitReg (b : Fin 8) (r : Reg8) (s : State) : exec (.bitReg b r) s = .next (testRegisterBit b r s) := by
  rw [exec_eq_form, formOf_bitReg]; rfl

theorem formOf_bitAtHL (b : Fin 8) : formOf (.bitAtHL b) = .testMemoryBit b := by fin_cases b <;> rfl

theorem exec_bitAtHL (b : Fin 8) (s : State) : exec (.bitAtHL b) s = .next (testMemoryBit b s) := by
  rw [exec_eq_form, formOf_bitAtHL]; rfl

theorem formOf_resReg (b : Fin 8) (r : Reg8) : formOf (.resReg b r) = .resetRegisterBit b r := by fin_cases b <;> cases r <;> rfl

theorem exec_resReg (b : Fin 8) (r : Reg8) (s : State) : exec (.resReg b r) s = .next (resetRegisterBit b r s) := by
  rw [exec_eq_form, formOf_resReg]; rfl

theorem formOf_resAtHL (b : Fin 8) : formOf (.resAtHL b) = .resetMemoryBit b := by fin_cases b <;> rfl

theorem exec_resAtHL (b : Fin 8) (s : State) : exec (.resAtHL b) s = .next (resetMemoryBit b s) := by
  rw [exec_eq_form, formOf_resAtHL]; rfl

theorem formOf_setReg (b : Fin 8) (r : Reg8) : formOf (.setReg b r) = .setRegisterBit b r := by fin_cases b <;> cases r <;> rfl

theorem exec_setReg (b : Fin 8) (r : Reg8) (s : State) : exec (.setReg b r) s = .next (setRegisterBit b r s) := by
  rw [exec_eq_form, formOf_setReg]; rfl

theorem formOf_setAtHL (b : Fin 8) : formOf (.setAtHL b) = .setMemoryBit b := by fin_cases b <;> rfl

theorem exec_setAtHL (b : Fin 8) (s : State) : exec (.setAtHL b) s = .next (setMemoryBit b s) := by
  rw [exec_eq_form, formOf_setAtHL]; rfl

theorem formOf_jpCond (cc : Cond) (w : Word) : formOf (.jpCond cc w) = .jumpIf cc w := by cases cc <;> rfl

theorem exec_jpCond (cc : Cond) (w : Word) (s : State) : exec (.jpCond cc w) s = .next (jumpIf cc w s) := by
  rw [exec_eq_form, formOf_jpCond]; rfl

theorem formOf_jrCond (cc : Cond) (e : Byte) : formOf (.jrCond cc e) = .jumpRelativeIf cc e := by cases cc <;> rfl

theorem exec_jrCond (cc : Cond) (e : Byte) (s : State) : exec (.jrCond cc e) s = .next (jumpRelativeIf cc e s) := by
  rw [exec_eq_form, formOf_jrCond]; rfl

theorem formOf_callCond (cc : Cond) (w : Word) : formOf (.callCond cc w) = .callIf cc w := by cases cc <;> rfl

theorem exec_callCond (cc : Cond) (w : Word) (s : State) : exec (.callCond cc w) s = .next (callIf cc w s) := by
  rw [exec_eq_form, formOf_callCond]; rfl

theorem formOf_retCond (cc : Cond) : formOf (.retCond cc) = .retIf cc := by cases cc <;> rfl

theorem exec_retCond (cc : Cond) (s : State) : exec (.retCond cc) s = .next (retIf cc s) := by
  rw [exec_eq_form, formOf_retCond]; rfl

theorem formOf_rst (y : Fin 8) : formOf (.rst y) = .restart (BitVec.ofNat 16 (8 * y.val)) := by fin_cases y <;> rfl

theorem exec_rst (y : Fin 8) (s : State) : exec (.rst y) s = .next (restart (BitVec.ofNat 16 (8 * y.val)) s) := by
  rw [exec_eq_form, formOf_rst]; rfl

theorem formOf_push (p : StackPair) : formOf (.push p) = .pushPair p := by cases p <;> rfl

theorem exec_push (p : StackPair) (s : State) : exec (.push p) s = .next (pushPair p s) := by
  rw [exec_eq_form, formOf_push]; rfl

theorem formOf_pop (p : StackPair) : formOf (.pop p) = .popPair p := by cases p <;> rfl

theorem exec_pop (p : StackPair) (s : State) : exec (.pop p) s = .next (popPair p s) := by
  rw [exec_eq_form, formOf_pop]; rfl

/-! ## The extended page -/

/-- The extended page runs the form of the instruction its byte decodes to (R122). -/
theorem runExtended_eq_form (op2 : Byte) (s : State) : runExtended op2 s = (formOf (decodeExtended op2)).run s := by
  unfold runExtended decodeExtended
  generalize fieldX op2 = x
  generalize fieldY op2 = y
  generalize loc8 (fieldZ op2) = z
  fin_cases x <;> cases z <;>
    simp only [formOf_shiftReg, formOf_shiftAtHL, formOf_bitReg, formOf_bitAtHL, formOf_resReg, formOf_resAtHL,
      formOf_setReg, formOf_setAtHL] <;> rfl

/-- The extended page never decodes to the prefix. -/
theorem formOf_decodeExtended_ne (op2 : Byte) : formOf (decodeExtended op2) ≠ .prefixCB := by
  unfold decodeExtended
  generalize fieldX op2 = x
  generalize fieldY op2 = y
  generalize loc8 (fieldZ op2) = z
  fin_cases x <;> cases z <;>
    simp [formOf_shiftReg, formOf_shiftAtHL, formOf_bitReg, formOf_bitAtHL, formOf_resReg, formOf_resAtHL,
      formOf_setReg, formOf_setAtHL]

/-- The state in which the extended instruction runs: PC past its byte. -/
theorem prefixCB_eq_form (s : State) :
    prefixCB s = (formOf (decodeExtended (s.read s.pc))).run (s.setPc (s.pc + 1#16)).freshReads := by
  unfold prefixCB; exact runExtended_eq_form _ _

/-! ## The byte writes of a form -/

/-- The byte writes a form makes, in order. -/
def Form.stores (s : State) : Form → List (Word × Byte)
  | .storeRegAtHL r => [(s.hl, s.getReg8 r)]
  | .storeImmAtHL n => [(s.hl, n)]
  | .storeA x => [(x.addr s, s.a)]
  | .storeAMove _ => [(s.hl, s.a)]
  | .storeSP w => [(w, loByte s.sp), (w + 1#16, hiByte s.sp)]
  | .incMemory => [(s.hl, s.read s.hl + 1#8)]
  | .decMemory => [(s.hl, s.read s.hl - 1#8)]
  | .shiftMemory o => [(s.hl, (shiftBits o (s.read s.hl) s.fC).1)]
  | .resetMemoryBit b => [(s.hl, resetBit b (s.read s.hl))]
  | .setMemoryBit b => [(s.hl, setBit b (s.read s.hl))]
  | .pushPair p => s.pushStores (s.getStackPair p)
  | .call _ => s.pushStores s.pc
  | .callIf cc _ => if s.cond cc then s.pushStores s.pc else []
  | .restart _ => s.pushStores s.pc
  | _ => []

/-- The claims' list of byte writes is the form's. -/
theorem byteStores_eq_form (i : Instr) (s : State) : byteStores s i = (formOf i).stores s := by
  cases i <;> rfl

theorem jumpIf_bus (cc : Cond) (t : Word) (s : State) : (jumpIf cc t s).bus = s.bus := by
  unfold jumpIf; split <;> simp

theorem jumpRelativeIf_bus (cc : Cond) (e : Byte) (s : State) : (jumpRelativeIf cc e s).bus = s.bus := by
  unfold jumpRelativeIf; split <;> simp

theorem retIf_bus (cc : Cond) (s : State) : (retIf cc s).bus = s.bus := by
  unfold retIf; split <;> simp

theorem halt_bus (s : State) : (halt s).bus = s.bus := by
  unfold halt; split <;> simp

theorem push16_bus (s : State) (v : Word) : (s.push16 v).bus = s.bus.writes (s.pushStores v) := by
  simp [State.pushStores, Bus.writes]

theorem callIf_bus (cc : Cond) (t : Word) (s : State) :
    (callIf cc t s).bus = s.bus.writes (if s.cond cc then s.pushStores s.pc else []) := by
  unfold callIf
  split
  · exact push16_bus s s.pc
  · simp [Bus.writes]

/-- A form changes the bus by its byte writes and nothing else. -/
theorem Form.run_bus (f : Form) (s : State) (h : f ≠ .prefixCB) : (f.run s).bus = s.bus.writes (f.stores s) := by
  cases f with
  | jumpIf cc t => exact jumpIf_bus cc t s
  | jumpRelativeIf cc e => exact jumpRelativeIf_bus cc e s
  | callIf cc t => exact callIf_bus cc t s
  | retIf cc => exact retIf_bus cc s
  | halt => exact halt_bus s
  | prefixCB => exact absurd rfl h
  | loadRegReg dst r => cases dst <;> rfl
  | loadRegImm dst n => cases dst <;> rfl
  | loadRegAtHL dst => cases dst <;> rfl
  | loadPairImm p w => cases p <;> rfl
  | incRegister r => cases r <;> rfl
  | decRegister r => cases r <;> rfl
  | incPairBy w p => cases p <;> rfl
  | shiftRegister o r => cases r <;> rfl
  | resetRegisterBit b r => cases r <;> rfl
  | setRegisterBit b r => cases r <;> rfl
  | popPair p => cases p <;> rfl
  | pushPair p => exact push16_bus s (s.getStackPair p)
  | call t => exact push16_bus s s.pc
  | restart t => exact push16_bus s s.pc
  | _ => rfl

end Sys2Proof.Machine
end

