-- ==== Sys2Proof/Laws/Step.lean ====
section
/-! SUPPORT. Laws of a step: everything it can answer, and that each part of it keeps the invariant. -/

namespace Sys2Proof.Machine

/-! ## What a step can answer -/

/-- A step answers a next state exactly when there is a step, and then it is a halted tick or one instruction, with the
boundary after it. -/
theorem step_cases {s t : State} (h : step s = .next t) :
    s.noStep = none ∧
    ((s.beginStep.halted = true ∧ t = s.beginStep.haltedTick.boundary) ∨
     (s.beginStep.halted = false ∧ t = ((formOf s.beginStep.fetchInstr).run s.beginStep.afterFetch).boundary)) := by
  unfold step at h
  cases hn : s.noStep with
  | some f => rw [hn] at h; cases h
  | none =>
    rw [hn] at h
    refine ⟨rfl, ?_⟩
    simp only at h
    split at h
    · rename_i hh
      exact .inl ⟨hh, by injection h with h; exact h.symm⟩
    · rename_i hh
      rw [exec_eq_form] at h
      exact .inr ⟨by simpa using hh, by injection h with h; exact h.symm⟩

/-- A step of a halted core. -/
theorem step_halted {s : State} (h : s.noStep = none) (hh : s.beginStep.halted = true) :
    step s = .next s.beginStep.haltedTick.boundary := by
  unfold step; rw [h]; simp [hh]

/-- A step of a running core. -/
theorem step_running {s : State} (h : s.noStep = none) (hh : s.beginStep.halted = false) :
    step s = .next ((formOf s.beginStep.fetchInstr).run s.beginStep.afterFetch).boundary := by
  unfold step; rw [h]; simp [hh, exec_eq_form]

theorem noStep_eq_none {s : State} : s.noStep = none ↔ s.fault = none ∧ s.stopped = false := by
  unfold State.noStep
  cases s.fault <;> simp

/-! ## The environment -/

@[simp] theorem State.beginStep_a (s : State) : s.beginStep.a = s.a := by simp [State.beginStep]
@[simp] theorem State.beginStep_b (s : State) : s.beginStep.b = s.b := by simp [State.beginStep]
@[simp] theorem State.beginStep_c (s : State) : s.beginStep.c = s.c := by simp [State.beginStep]
@[simp] theorem State.beginStep_d (s : State) : s.beginStep.d = s.d := by simp [State.beginStep]
@[simp] theorem State.beginStep_e (s : State) : s.beginStep.e = s.e := by simp [State.beginStep]
@[simp] theorem State.beginStep_hl (s : State) : s.beginStep.hl = s.hl := by simp [State.beginStep]
@[simp] theorem State.beginStep_fZ (s : State) : s.beginStep.fZ = s.fZ := by simp [State.beginStep]
@[simp] theorem State.beginStep_fN (s : State) : s.beginStep.fN = s.fN := by simp [State.beginStep]
@[simp] theorem State.beginStep_fH (s : State) : s.beginStep.fH = s.fH := by simp [State.beginStep]
@[simp] theorem State.beginStep_fC (s : State) : s.beginStep.fC = s.fC := by simp [State.beginStep]
@[simp] theorem State.beginStep_sp (s : State) : s.beginStep.sp = s.sp := by simp [State.beginStep]
@[simp] theorem State.beginStep_pc (s : State) : s.beginStep.pc = s.pc := by simp [State.beginStep]
@[simp] theorem State.beginStep_ime (s : State) : s.beginStep.ime = s.ime := by simp [State.beginStep]
@[simp] theorem State.beginStep_halted (s : State) : s.beginStep.halted = s.halted := by simp [State.beginStep]
@[simp] theorem State.beginStep_stopped (s : State) : s.beginStep.stopped = s.stopped := by simp [State.beginStep]
@[simp] theorem State.beginStep_fault (s : State) : s.beginStep.fault = s.fault := by simp [State.beginStep]

@[simp] theorem State.beginStep_cycles (s : State) : s.beginStep.cycles = none := rfl
@[simp] theorem State.beginStep_dispatchCycles (s : State) : s.beginStep.dispatchCycles = none := rfl
@[simp] theorem State.beginStep_env (s : State) : s.beginStep.env = s.nextEnvMove.2 := by simp [State.beginStep]
@[simp] theorem State.beginStep_envCycle (s : State) : s.beginStep.envCycle = s.envCycle := by simp [State.beginStep]

/-- The 8-bit registers through the parts of a step around its instruction. -/
@[simp] theorem State.environmentTurn_getReg8 (s : State) (r : Reg8) : s.environmentTurn.getReg8 r = s.getReg8 r := by
  cases r <;> simp [State.getReg8, State.h, State.l]
@[simp] theorem State.beginStep_getReg8 (s : State) (r : Reg8) : s.beginStep.getReg8 r = s.getReg8 r := by
  cases r <;> simp [State.getReg8, State.h, State.l]
@[simp] theorem State.haltedTick_getReg8 (s : State) (r : Reg8) : s.haltedTick.getReg8 r = s.getReg8 r := by
  cases r <;> simp [State.getReg8, State.h, State.l]
@[simp] theorem State.freshReads_getReg8 (s : State) (r : Reg8) : s.freshReads.getReg8 r = s.getReg8 r := by
  cases r <;> simp [State.getReg8, State.h, State.l]

/-- Environment writes keep storage canonical. -/
theorem wf_envWrites (l : List (BitVec 7 × Byte)) : ∀ (m : Memory), m.wf → (envWrites m l).wf := by
  induction l with
  | nil => exact fun m h => h
  | cons x l ih =>
    intro m h
    simp only [envWrites]
    split
    · exact ih m h
    · exact ih _ (Memory.wf_write h _ _)

/-- Environment writes reach only 0xFF00..0xFF7F other than IF (R15). -/
theorem read_envWrites_of_outside (l : List (BitVec 7 × Byte)) (k : Nat)
    (hk : k < 0xFF00 ∨ 0xFF7F < k ∨ k = addrIF) : ∀ (m : Memory), (envWrites m l).read k = m.read k := by
  induction l with
  | nil => exact fun m => rfl
  | cons x l ih =>
    intro m
    simp only [envWrites]
    split
    · exact ih m
    · rw [ih]
      have := x.1.isLt
      refine Memory.read_write_of_ne _ _ ?_
      rename_i hne
      rcases hk with h | h | h
      · omega
      · omega
      · rw [h]; exact fun e => hne e.symm

/-- All that an environment's turn does to the bus: storage, and of it only 0xFF00..0xFF7F (R15). -/
theorem State.environmentTurn_bus (s : State) :
    ∃ m : Memory, s.environmentTurn.bus = { s.bus with mem := m } ∧
      ∀ k, k < 0xFF00 ∨ 0xFF7F < k → m.read k = s.bus.mem.read k := by
  refine ⟨_, rfl, fun k hk => ?_⟩
  rw [Memory.read_write_of_ne _ _ (by unfold addrIF; omega), read_envWrites_of_outside _ _ (by omega)]

/-- All that the start of a step does to the bus. -/
theorem State.beginStep_bus (s : State) :
    ∃ m : Memory, s.beginStep.bus = { s.bus with mem := m, joypadOut := [] } ∧
      ∀ k, k < 0xFF00 ∨ 0xFF7F < k → m.read k = s.bus.mem.read k := by
  obtain ⟨m, e, h⟩ := s.environmentTurn_bus
  exact ⟨m, congrArg (fun b : Bus => { b with joypadOut := [] }) e, h⟩

/-- Two buses with one image and one bank read alike wherever their storage does and the bank is in the image, whatever
their counters. -/
theorem Bus.read_congr_present (b b' : Bus) (a : Word) (hr : b'.rom = b.rom) (hs : b'.romSize = b.romSize)
    (hb : b'.bank = b.bank) (hp : a.toNat < 0x4000 ∨ 0x8000 ≤ a.toNat ∨ b.bank * 0x4000 < b.romSize)
    (hm : 0x8000 ≤ a.toNat → b'.mem.read (storageKey a) = b.mem.read (storageKey a)) : b'.read a = b.read a := by
  unfold Bus.read Bus.bankOffset
  rw [hr, hs, hb]
  split
  · rfl
  · split
    · rw [if_neg (by omega), if_neg (by omega)]
    · exact hm (by omega)

/-- A storage key lies where its address does, with respect to the environment's range. -/
theorem storageKey_outside (a : Word) (h : a.toNat < 0xFF00 ∨ 0xFF7F < a.toNat) :
    storageKey a < 0xFF00 ∨ 0xFF7F < storageKey a := by
  unfold storageKey; split <;> omega

/-- Reads outside 0xFF00..0xFF7F do not see an environment's turn. -/
theorem State.read_environmentTurn (s : State) (a : Word) (h : a.toNat < 0xFF00 ∨ 0xFF7F < a.toNat) :
    s.environmentTurn.read a = s.read a := by
  obtain ⟨m, e, hm⟩ := s.environmentTurn_bus
  unfold State.read
  rw [e]
  exact Bus.read_congr_mem _ _ _ fun _ => hm _ (storageKey_outside a h)

/-- Environment writes keep the invariant of the bus. -/
theorem Bus.Ok.envWrites (l : List (BitVec 7 × Byte)) :
    ∀ {b : Bus}, b.Ok → ({ b with mem := Sys2Proof.Machine.envWrites b.mem l } : Bus).Ok := by
  induction l with
  | nil => exact fun h => h
  | cons x l ih =>
    intro b h
    simp only [Sys2Proof.Machine.envWrites]
    split
    · exact ih h
    · rename_i hne
      have := x.1.isLt
      refine ih (b := { b with mem := b.mem.write (0xFF00 + x.1.toNat) x.2 }) (h.memWrite _ _ ?_ ?_)
      · simp only [isStorageKey]; omega
      · rintro (e | e)
        · simp only [addrIE] at e; omega
        · exact absurd e hne

/-- Setting request bits leaves IF a five-bit value. -/
theorem or_requests_lt (v : Byte) (q : BitVec 5) (h : v.toNat < 0x20) : (v ||| q.setWidth 8).toNat < 0x20 := by
  have hq := q.isLt
  rw [BitVec.toNat_or]
  refine Nat.or_lt_two_pow (n := 5) h ?_
  simp only [BitVec.toNat_setWidth]
  omega

theorem State.Ok.applyEnv {s : State} (h : s.Ok) (mv : EnvMove) : (s.applyEnv mv).Ok where
  bus := by
    have h1 := h.bus.envWrites mv.writes
    refine h1.memWrite addrIF _ (by decide) fun _ => or_requests_lt _ _ ?_
    exact h1.masks.if_mask
  run := ⟨h.run.halted_ime, h.run.halted_running, h.run.stopped_clean⟩

theorem State.Ok.environmentTurn {s : State} (h : s.Ok) : s.environmentTurn.Ok := by
  have h1 := h.applyEnv s.nextEnvMove.1
  exact ⟨h1.bus, ⟨h1.run.halted_ime, h1.run.halted_running, h1.run.stopped_clean⟩⟩

theorem State.Ok.beginStep {s : State} (h : s.Ok) : s.beginStep.Ok := by
  have h1 := h.environmentTurn
  exact ⟨h1.bus.joypadOut [], ⟨h1.run.halted_ime, h1.run.halted_running, h1.run.stopped_clean⟩⟩

theorem State.Ok.freshReads {s : State} (h : s.Ok) : s.freshReads.Ok :=
  ⟨h.bus.freeReads _, ⟨h.run.halted_ime, h.run.halted_running, h.run.stopped_clean⟩⟩

theorem State.Ok.setPc {s : State} (h : s.Ok) (t : Word) : (s.setPc t).Ok :=
  ⟨h.bus, ⟨h.run.halted_ime, h.run.halted_running, h.run.stopped_clean⟩⟩

theorem State.Ok.afterFetch {s : State} (h : s.Ok) : s.afterFetch.Ok := (h.setPc _).freshReads

theorem State.Ok.tick {s : State} (h : s.Ok) (n : Nat) : (s.tick n).Ok :=
  ⟨h.bus, ⟨h.run.halted_ime, h.run.halted_running, h.run.stopped_clean⟩⟩

/-! ## The instruction -/

theorem Bus.Ok.writes (l : List (Word × Byte)) : ∀ {b : Bus}, b.Ok → (b.writes l).Ok := by
  induction l with
  | nil => exact fun h => h
  | cons p l ih => exact fun h => ih (h.write p.1 p.2)

/-- A running core (60_exceptions.md R345). -/
abbrev State.running (s : State) : Prop := s.fault = none ∧ s.stopped = false ∧ s.halted = false

/-- What a form does to the run state of a running core. -/
theorem Form.run_runState (f : Form) (s : State) (hf : f ≠ .prefixCB) (h : s.running) :
    ((f.run s).halted = true ↔ f = .halt ∧ s.ime = true) ∧
    ((f.run s).stopped = true ↔ f = .stop) ∧
    ((f.run s).fault ≠ none ↔ (f = .halt ∧ s.ime = false) ∨ ∃ byte, f = .unassigned byte) ∧
    ((f.run s).halted = true → (f.run s).ime = true) := by
  obtain ⟨h1, h2, h3⟩ := h
  cases f with
  | prefixCB => exact absurd rfl hf
  | halt =>
    simp only [Form.run, Sys2Proof.Machine.halt]
    split <;> simp_all
  | jumpIf cc t => simp only [Form.run, Sys2Proof.Machine.jumpIf]; split <;> simp_all
  | jumpRelativeIf cc t => simp only [Form.run, Sys2Proof.Machine.jumpRelativeIf]; split <;> simp_all
  | callIf cc t => simp only [Form.run, Sys2Proof.Machine.callIf]; split <;> simp_all
  | retIf cc => simp only [Form.run, Sys2Proof.Machine.retIf]; split <;> simp_all
  | disableInterrupts => simp_all [Form.run, Sys2Proof.Machine.disableInterrupts]
  | enableInterrupts => simp_all [Form.run, Sys2Proof.Machine.enableInterrupts]
  | stop => simp_all [Form.run, Sys2Proof.Machine.stop]
  | unassigned byte => simp_all [Form.run, Sys2Proof.Machine.unassigned]
  | loadRegReg dst r => simp_all [Form.run, Sys2Proof.Machine.loadRegReg]
  | loadRegImm dst n => simp_all [Form.run, Sys2Proof.Machine.loadRegImm]
  | loadRegAtHL dst => simp_all [Form.run, Sys2Proof.Machine.loadRegAtHL]
  | storeRegAtHL r => simp_all [Form.run, Sys2Proof.Machine.storeRegAtHL]
  | storeImmAtHL n => simp_all [Form.run, Sys2Proof.Machine.storeImmAtHL]
  | loadA x => simp_all [Form.run, Sys2Proof.Machine.loadA]
  | storeA x => simp_all [Form.run, Sys2Proof.Machine.storeA]
  | loadAMove w => simp_all [Form.run, Sys2Proof.Machine.moveHL, Sys2Proof.Machine.loadA]
  | storeAMove w => simp_all [Form.run, Sys2Proof.Machine.moveHL, Sys2Proof.Machine.storeA]
  | loadPairImm p w => simp_all [Form.run, Sys2Proof.Machine.loadPairImm]
  | storeSP w => simp_all [Form.run, Sys2Proof.Machine.storeSP]
  | loadSPHL => simp_all [Form.run, Sys2Proof.Machine.loadSPHL]
  | incRegister r => simp_all [Form.run, Sys2Proof.Machine.incRegister]
  | decRegister r => simp_all [Form.run, Sys2Proof.Machine.decRegister]
  | incMemory => simp_all [Form.run, Sys2Proof.Machine.incMemory]
  | decMemory => simp_all [Form.run, Sys2Proof.Machine.decMemory]
  | incPairBy w p => simp_all [Form.run, Sys2Proof.Machine.incPairBy]
  | aluRegister o r => simp_all [Form.run, Sys2Proof.Machine.aluRegister, Sys2Proof.Machine.aluWith]
  | aluMemory o => simp_all [Form.run, Sys2Proof.Machine.aluMemory, Sys2Proof.Machine.aluWith]
  | aluImmediate o n => simp_all [Form.run, Sys2Proof.Machine.aluImmediate, Sys2Proof.Machine.aluWith]
  | addHL p => simp_all [Form.run, Sys2Proof.Machine.addHL]
  | addSP e => simp_all [Form.run, Sys2Proof.Machine.addSP]
  | loadHLSP e => simp_all [Form.run, Sys2Proof.Machine.loadHLSP]
  | rotateAcc o => simp_all [Form.run, Sys2Proof.Machine.rotateAcc]
  | shiftRegister o r => simp_all [Form.run, Sys2Proof.Machine.shiftRegister]
  | shiftMemory o => simp_all [Form.run, Sys2Proof.Machine.shiftMemory]
  | testRegisterBit b r => simp_all [Form.run, Sys2Proof.Machine.testRegisterBit]
  | testMemoryBit b => simp_all [Form.run, Sys2Proof.Machine.testMemoryBit]
  | resetRegisterBit b r => simp_all [Form.run, Sys2Proof.Machine.resetRegisterBit]
  | resetMemoryBit b => simp_all [Form.run, Sys2Proof.Machine.resetMemoryBit]
  | setRegisterBit b r => simp_all [Form.run, Sys2Proof.Machine.setRegisterBit]
  | setMemoryBit b => simp_all [Form.run, Sys2Proof.Machine.setMemoryBit]
  | jump t => simp_all [Form.run, Sys2Proof.Machine.jump]
  | jumpHL => simp_all [Form.run, Sys2Proof.Machine.jumpHL]
  | jumpRelative e => simp_all [Form.run, Sys2Proof.Machine.jumpRelative]
  | call t => simp_all [Form.run, Sys2Proof.Machine.call]
  | ret => simp_all [Form.run, Sys2Proof.Machine.ret]
  | reti => simp_all [Form.run, Sys2Proof.Machine.reti]
  | restart t => simp_all [Form.run, Sys2Proof.Machine.restart]
  | pushPair p => simp_all [Form.run, Sys2Proof.Machine.pushPair]
  | popPair p => simp_all [Form.run, Sys2Proof.Machine.popPair]
  | decimalAdjust => simp_all [Form.run, Sys2Proof.Machine.decimalAdjust]
  | complementA => simp_all [Form.run, Sys2Proof.Machine.complementA]
  | setCarry => simp_all [Form.run, Sys2Proof.Machine.setCarry]
  | complementCarry => simp_all [Form.run, Sys2Proof.Machine.complementCarry]
  | nop => simp_all [Form.run, Sys2Proof.Machine.nop]

/-- A form keeps the invariant of a running core. -/
theorem Form.run_ok_of_ne (f : Form) {s : State} (h : s.Ok) (hr : s.running) (hf : f ≠ .prefixCB) : (f.run s).Ok := by
  obtain ⟨k1, k2, k3, k4⟩ := f.run_runState s hf hr
  refine ⟨by rw [f.run_bus s hf]; exact h.bus.writes _, ⟨k4, fun hh => ⟨?_, ?_⟩, fun hh => ?_⟩⟩
  · by_contra hs
    have := k2.1 (by simpa using hs)
    rw [(k1.1 hh).1] at this
    cases this
  · by_contra hs
    rcases k3.1 hs with e | ⟨byte, e⟩
    · rw [(k1.1 hh).2] at e; cases e.2
    · rw [(k1.1 hh).1] at e; cases e
  · by_contra hs
    rcases k3.1 hs with e | ⟨byte, e⟩
    · rw [k2.1 hh] at e; cases e.1
    · rw [k2.1 hh] at e; cases e

theorem Form.run_ok (f : Form) {s : State} (h : s.Ok) (hr : s.running) : (f.run s).Ok := by
  by_cases hf : f = .prefixCB
  · subst hf
    simp only [Form.run]
    rw [prefixCB_eq_form]
    exact Form.run_ok_of_ne _ (h.setPc _).freshReads hr (formOf_decodeExtended_ne _)
  · exact f.run_ok_of_ne h hr hf

/-! ## The check -/

/-- Everything the interrupt check can do (R328 to R334). -/
theorem State.interruptCheck_cases (s : State) :
    (lowestPending s.pending = none ∧ s.interruptCheck = { s with dispatchCycles := some 0 }) ∨
    (∃ i, lowestPending s.pending = some i ∧ s.ime = false ∧
      s.interruptCheck = { s with halted := false, dispatchCycles := some 0 }) ∨
    (∃ i, lowestPending s.pending = some i ∧ s.ime = true ∧
      s.interruptCheck = { s.dispatch i with dispatchCycles := some 20 }) := by
  unfold State.interruptCheck
  cases lowestPending s.pending with
  | none => exact .inl ⟨rfl, rfl⟩
  | some i =>
    cases h : s.ime with
    | false => exact .inr (.inl ⟨i, rfl, rfl, by simp⟩)
    | true => exact .inr (.inr ⟨i, rfl, rfl, rfl⟩)

theorem and_lt_of_lt (v w : Byte) (h : v.toNat < 0x20) : (v &&& w).toNat < 0x20 := by
  have : (v &&& w).toNat ≤ v.toNat := by rw [BitVec.toNat_and]; exact Nat.and_le_left
  omega

theorem State.Ok.dispatch {s : State} (h : s.Ok) (hs : s.stopped = true → s.fault = none) (i : Fin 5) :
    (s.dispatch i).Ok where
  bus := by
    have h1 : ({ s.bus with mem := s.bus.mem.write addrIF (s.bus.mem.read addrIF &&& ~~~(1#8 <<< i.val)) } : Bus).Ok :=
      h.bus.memWrite _ _ (by decide) fun _ => and_lt_of_lt _ _ h.bus.masks.if_mask
    exact (h1.write (s.sp - 1#16) (hiByte s.pc)).write (s.sp - 1#16 - 1#16) (loByte s.pc)
  run := ⟨fun hh => by simp at hh, fun hh => by simp at hh, fun hh => by simpa using hs (by simpa using hh)⟩

theorem State.Ok.interruptCheck {s : State} (h : s.Ok) : s.interruptCheck.Ok := by
  rcases s.interruptCheck_cases with ⟨-, e⟩ | ⟨i, -, -, e⟩ | ⟨i, -, -, e⟩ <;> rw [e]
  · exact ⟨h.bus, ⟨h.run.halted_ime, h.run.halted_running, h.run.stopped_clean⟩⟩
  · exact ⟨h.bus, ⟨fun hh => by simp at hh, fun hh => by simp at hh, h.run.stopped_clean⟩⟩
  · have h1 := h.dispatch h.run.stopped_clean i
    exact ⟨h1.bus, ⟨h1.run.halted_ime, h1.run.halted_running, h1.run.stopped_clean⟩⟩

theorem State.Ok.boundary {s : State} (h : s.Ok) : s.boundary.Ok := by
  unfold State.boundary
  split
  · exact h
  · exact h.environmentTurn.freshReads.interruptCheck.freshReads

end Sys2Proof.Machine
end

