-- ==== Sys2Proof/Tests/Slice0.lean ====
section
/-! SUPPORT. Tests. Expected values come from the spec: encodings from 30_encoding.md and opcode_table.json, results
from the vectors V<n> of 95_test_vectors.md (one step from the vector's start state). Then, for every statement with
hypotheses, a theorem that meets them (`test_witness_<statement>`). -/

namespace Sys2Proof.Tests

open Sys2Proof.Machine

/-! ## Helpers -/

/-- `s` with bytes placed in storage. -/
def put : List (Nat × Nat) → State → State
  | [], s => s
  | x :: l, s => put l (s.placeByte (BitVec.ofNat 16 x.1) (BitVec.ofNat 8 x.2))

/-- What a step's next state shows. -/
def look {α : Type} (s : State) (f : State → α) : Option α :=
  match step s with
  | .next t => some (f t)
  | _ => none

/-- Whether an instruction completes. -/
def completes (i : Instr) (s : State) : Bool :=
  match exec i s with
  | .next _ => true
  | _ => false

/-- The bus with the MBC1 test cartridge of 95_test_vectors.md 2.11: 8 banks, each holding its number at its first
byte; here banks 0 to 3 and 31 are written out. -/
def mbc1Bus : Bus :=
  { Bus.reset with
    cartType := .mbc1
    romSize := 0x20000
    rom := [(0x0147, 0x01), (0x4000, 0x01), (0x8000, 0x02), (0xC000, 0x03)] }

/-- The default state of 95_test_vectors.md 2.12. -/
def checkState (ime : Bool) (requests enables : Nat) : State :=
  put [(0xFF0F, requests), (0xFFFF, enables)] { State.reset with pc := 0x0150, ime := ime }

/-! ## Well-formedness -/

/-- The one ill-formed term, the prefix byte alone, is refused (R121). -/
theorem test_prefix_is_no_instruction : WellFormed .prefixCB = false := by decide

/-- A term of each shape is accepted. -/
theorem test_instructions_are_well_formed :
    [Instr.nop, .ldBD8 0xFF, .jrE8 0x80, .jpA16 0xFFFF, .rlcB, .set7AtHL, .illegalD3].all WellFormed = true := by decide

/-- An instruction missing its bytes is rejected by name, not padded. -/
theorem test_truncated_bytes :
    decode [] = .error .noBytes ∧ decode [0x06#8] = .error (.truncated 0x06#8 2) ∧
      decode [0xC3#8, 0x00#8] = .error (.truncated 0xC3#8 3) := ⟨rfl, rfl, rfl⟩

/-! ## Decoding, bit by bit (one word for each family, from the fields of 30_encoding.md) -/

theorem test_bits_load : decodeBytes 0b01111000#8 0 0 = .ldAB := by decide                     -- 01 111 000
theorem test_bits_load_immediate : decodeBytes 0b00010110#8 0x5A#8 0 = .ldDD8 0x5A := by decide  -- 00 010 110
theorem test_bits_store : decodeBytes 0b01110010#8 0 0 = .ldAtHLD := by decide                 -- 01 110 010
theorem test_bits_load_pair : decodeBytes 0b00010001#8 0x34#8 0x12#8 = .ldDED16 0x1234 := by decide  -- 00 010 001
theorem test_bits_inc : decodeBytes 0b00100100#8 0 0 = .incH := by decide                      -- 00 100 100
theorem test_bits_dec_pair : decodeBytes 0b00101011#8 0 0 = .decHL := by decide                -- 00 101 011
theorem test_bits_alu : decodeBytes 0b10101110#8 0 0 = .xorAtHL := by decide                   -- 10 101 110
theorem test_bits_add_pair : decodeBytes 0b00111001#8 0 0 = .addHLSP := by decide              -- 00 111 001
theorem test_bits_rotate_a : decodeBytes 0b00011111#8 0 0 = .rra := by decide                  -- 00 011 111
theorem test_bits_shift : decodeBytes 0b11001011#8 0b00110110#8 0 = .swapAtHL := by decide     -- CB 00 110 110
theorem test_bits_bit : decodeBytes 0b11001011#8 0b01111010#8 0 = .bit7D := by decide          -- CB 01 111 010
theorem test_bits_jump : decodeBytes 0b11001010#8 0x00#8 0x80#8 = .jpZA16 0x8000 := by decide  -- 11 001 010
theorem test_bits_return : decodeBytes 0b11011000#8 0 0 = .retC := by decide                   -- 11 011 000
theorem test_bits_stack : decodeBytes 0b11010001#8 0 0 = .popDE := by decide                   -- 11 010 001
theorem test_bits_misc : decodeBytes 0b00101111#8 0 0 = .cpl := by decide                      -- 00 101 111
theorem test_bits_unassigned : decodeBytes 0b11101100#8 0 0 = .illegalEC := by decide          -- 11 101 100

/-- The words of the opcode table as the host numbers them: a base row, a row of the extended page, the prefix row. -/
theorem test_table_words :
    decodeTableWord 8 0x76 = some .halt ∧ decodeTableWord 16 0xCB7E = some .bit7AtHL ∧
      decodeTableWord 8 0xCB = some .prefixCB := ⟨rfl, rfl, rfl⟩

/-! ## Decoding, every row of the table (operand bytes 0x34, 0x12) -/

theorem test_decode_base_0x :
    [0x00#8, 0x01#8, 0x02#8, 0x03#8, 0x04#8, 0x05#8, 0x06#8, 0x07#8,
      0x08#8, 0x09#8, 0x0A#8, 0x0B#8, 0x0C#8, 0x0D#8, 0x0E#8, 0x0F#8].map (fun op => decodeBytes op 0x34#8 0x12#8) =
     [.nop, .ldBCD16 0x1234, .ldAtBCA, .incBC, .incB, .decB, .ldBD8 0x34, .rlca, .ldAtA16SP 0x1234, .addHLBC,
      .ldAAtBC, .decBC, .incC, .decC, .ldCD8 0x34, .rrca] := by decide

theorem test_decode_base_1x :
    [0x10#8, 0x11#8, 0x12#8, 0x13#8, 0x14#8, 0x15#8, 0x16#8, 0x17#8,
      0x18#8, 0x19#8, 0x1A#8, 0x1B#8, 0x1C#8, 0x1D#8, 0x1E#8, 0x1F#8].map (fun op => decodeBytes op 0x34#8 0x12#8) =
     [.stop, .ldDED16 0x1234, .ldAtDEA, .incDE, .incD, .decD, .ldDD8 0x34, .rla, .jrE8 0x34, .addHLDE, .ldAAtDE,
      .decDE, .incE, .decE, .ldED8 0x34, .rra] := by decide

theorem test_decode_base_2x :
    [0x20#8, 0x21#8, 0x22#8, 0x23#8, 0x24#8, 0x25#8, 0x26#8, 0x27#8,
      0x28#8, 0x29#8, 0x2A#8, 0x2B#8, 0x2C#8, 0x2D#8, 0x2E#8, 0x2F#8].map (fun op => decodeBytes op 0x34#8 0x12#8) =
     [.jrNZE8 0x34, .ldHLD16 0x1234, .ldAtHLIncA, .incHL, .incH, .decH, .ldHD8 0x34, .daa, .jrZE8 0x34, .addHLHL,
      .ldAAtHLInc, .decHL, .incL, .decL, .ldLD8 0x34, .cpl] := by decide

theorem test_decode_base_3x :
    [0x30#8, 0x31#8, 0x32#8, 0x33#8, 0x34#8, 0x35#8, 0x36#8, 0x37#8,
      0x38#8, 0x39#8, 0x3A#8, 0x3B#8, 0x3C#8, 0x3D#8, 0x3E#8, 0x3F#8].map (fun op => decodeBytes op 0x34#8 0x12#8) =
     [.jrNCE8 0x34, .ldSPD16 0x1234, .ldAtHLDecA, .incSP, .incAtHL, .decAtHL, .ldAtHLD8 0x34, .scf, .jrCE8 0x34,
      .addHLSP, .ldAAtHLDec, .decSP, .incA, .decA, .ldAD8 0x34, .ccf] := by decide

theorem test_decode_base_4x :
    [0x40#8, 0x41#8, 0x42#8, 0x43#8, 0x44#8, 0x45#8, 0x46#8, 0x47#8,
      0x48#8, 0x49#8, 0x4A#8, 0x4B#8, 0x4C#8, 0x4D#8, 0x4E#8, 0x4F#8].map (fun op => decodeBytes op 0x34#8 0x12#8) =
     [.ldBB, .ldBC, .ldBD, .ldBE, .ldBH, .ldBL, .ldBAtHL, .ldBA, .ldCB, .ldCC, .ldCD, .ldCE, .ldCH, .ldCL, .ldCAtHL,
      .ldCA] := by decide

theorem test_decode_base_5x :
    [0x50#8, 0x51#8, 0x52#8, 0x53#8, 0x54#8, 0x55#8, 0x56#8, 0x57#8,
      0x58#8, 0x59#8, 0x5A#8, 0x5B#8, 0x5C#8, 0x5D#8, 0x5E#8, 0x5F#8].map (fun op => decodeBytes op 0x34#8 0x12#8) =
     [.ldDB, .ldDC, .ldDD, .ldDE, .ldDH, .ldDL, .ldDAtHL, .ldDA, .ldEB, .ldEC, .ldED, .ldEE, .ldEH, .ldEL, .ldEAtHL,
      .ldEA] := by decide

theorem test_decode_base_6x :
    [0x60#8, 0x61#8, 0x62#8, 0x63#8, 0x64#8, 0x65#8, 0x66#8, 0x67#8,
      0x68#8, 0x69#8, 0x6A#8, 0x6B#8, 0x6C#8, 0x6D#8, 0x6E#8, 0x6F#8].map (fun op => decodeBytes op 0x34#8 0x12#8) =
     [.ldHB, .ldHC, .ldHD, .ldHE, .ldHH, .ldHL, .ldHAtHL, .ldHA, .ldLB, .ldLC, .ldLD, .ldLE, .ldLH, .ldLL, .ldLAtHL,
      .ldLA] := by decide

theorem test_decode_base_7x :
    [0x70#8, 0x71#8, 0x72#8, 0x73#8, 0x74#8, 0x75#8, 0x76#8, 0x77#8,
      0x78#8, 0x79#8, 0x7A#8, 0x7B#8, 0x7C#8, 0x7D#8, 0x7E#8, 0x7F#8].map (fun op => decodeBytes op 0x34#8 0x12#8) =
     [.ldAtHLB, .ldAtHLC, .ldAtHLD, .ldAtHLE, .ldAtHLH, .ldAtHLL, .halt, .ldAtHLA, .ldAB, .ldAC, .ldAD, .ldAE,
      .ldAH, .ldAL, .ldAAtHL, .ldAA] := by decide

theorem test_decode_base_8x :
    [0x80#8, 0x81#8, 0x82#8, 0x83#8, 0x84#8, 0x85#8, 0x86#8, 0x87#8,
      0x88#8, 0x89#8, 0x8A#8, 0x8B#8, 0x8C#8, 0x8D#8, 0x8E#8, 0x8F#8].map (fun op => decodeBytes op 0x34#8 0x12#8) =
     [.addAB, .addAC, .addAD, .addAE, .addAH, .addAL, .addAAtHL, .addAA, .adcAB, .adcAC, .adcAD, .adcAE, .adcAH,
      .adcAL, .adcAAtHL, .adcAA] := by decide

theorem test_decode_base_9x :
    [0x90#8, 0x91#8, 0x92#8, 0x93#8, 0x94#8, 0x95#8, 0x96#8, 0x97#8,
      0x98#8, 0x99#8, 0x9A#8, 0x9B#8, 0x9C#8, 0x9D#8, 0x9E#8, 0x9F#8].map (fun op => decodeBytes op 0x34#8 0x12#8) =
     [.subB, .subC, .subD, .subE, .subH, .subL, .subAtHL, .subA, .sbcAB, .sbcAC, .sbcAD, .sbcAE, .sbcAH, .sbcAL,
      .sbcAAtHL, .sbcAA] := by decide

theorem test_decode_base_Ax :
    [0xA0#8, 0xA1#8, 0xA2#8, 0xA3#8, 0xA4#8, 0xA5#8, 0xA6#8, 0xA7#8,
      0xA8#8, 0xA9#8, 0xAA#8, 0xAB#8, 0xAC#8, 0xAD#8, 0xAE#8, 0xAF#8].map (fun op => decodeBytes op 0x34#8 0x12#8) =
     [.andB, .andC, .andD, .andE, .andH, .andL, .andAtHL, .andA, .xorB, .xorC, .xorD, .xorE, .xorH, .xorL, .xorAtHL,
      .xorA] := by decide

theorem test_decode_base_Bx :
    [0xB0#8, 0xB1#8, 0xB2#8, 0xB3#8, 0xB4#8, 0xB5#8, 0xB6#8, 0xB7#8,
      0xB8#8, 0xB9#8, 0xBA#8, 0xBB#8, 0xBC#8, 0xBD#8, 0xBE#8, 0xBF#8].map (fun op => decodeBytes op 0x34#8 0x12#8) =
     [.orB, .orC, .orD, .orE, .orH, .orL, .orAtHL, .orA, .cpB, .cpC, .cpD, .cpE, .cpH, .cpL, .cpAtHL, .cpA] := by decide

theorem test_decode_base_Cx :
    [0xC0#8, 0xC1#8, 0xC2#8, 0xC3#8, 0xC4#8, 0xC5#8, 0xC6#8, 0xC7#8,
      0xC8#8, 0xC9#8, 0xCA#8, 0xCC#8, 0xCD#8, 0xCE#8, 0xCF#8].map (fun op => decodeBytes op 0x34#8 0x12#8) =
     [.retNZ, .popBC, .jpNZA16 0x1234, .jpA16 0x1234, .callNZA16 0x1234, .pushBC, .addAD8 0x34, .rst00, .retZ, .ret,
      .jpZA16 0x1234, .callZA16 0x1234, .callA16 0x1234, .adcAD8 0x34, .rst08] := by decide

theorem test_decode_base_Dx :
    [0xD0#8, 0xD1#8, 0xD2#8, 0xD3#8, 0xD4#8, 0xD5#8, 0xD6#8, 0xD7#8,
      0xD8#8, 0xD9#8, 0xDA#8, 0xDB#8, 0xDC#8, 0xDD#8, 0xDE#8, 0xDF#8].map (fun op => decodeBytes op 0x34#8 0x12#8) =
     [.retNC, .popDE, .jpNCA16 0x1234, .illegalD3, .callNCA16 0x1234, .pushDE, .subD8 0x34, .rst10, .retC, .reti,
      .jpCA16 0x1234, .illegalDB, .callCA16 0x1234, .illegalDD, .sbcAD8 0x34, .rst18] := by decide

theorem test_decode_base_Ex :
    [0xE0#8, 0xE1#8, 0xE2#8, 0xE3#8, 0xE4#8, 0xE5#8, 0xE6#8, 0xE7#8,
      0xE8#8, 0xE9#8, 0xEA#8, 0xEB#8, 0xEC#8, 0xED#8, 0xEE#8, 0xEF#8].map (fun op => decodeBytes op 0x34#8 0x12#8) =
     [.ldhAtA8A 0x34, .popHL, .ldAtCA, .illegalE3, .illegalE4, .pushHL, .andD8 0x34, .rst20, .addSPE8 0x34, .jpAtHL,
      .ldAtA16A 0x1234, .illegalEB, .illegalEC, .illegalED, .xorD8 0x34, .rst28] := by decide

theorem test_decode_base_Fx :
    [0xF0#8, 0xF1#8, 0xF2#8, 0xF3#8, 0xF4#8, 0xF5#8, 0xF6#8, 0xF7#8,
      0xF8#8, 0xF9#8, 0xFA#8, 0xFB#8, 0xFC#8, 0xFD#8, 0xFE#8, 0xFF#8].map (fun op => decodeBytes op 0x34#8 0x12#8) =
     [.ldhAAtA8 0x34, .popAF, .ldAAtC, .di, .illegalF4, .pushAF, .orD8 0x34, .rst30, .ldHLSPE8 0x34, .ldSPHL,
      .ldAAtA16 0x1234, .ei, .illegalFC, .illegalFD, .cpD8 0x34, .rst38] := by decide

theorem test_decode_extended_0x :
    [0x00#8, 0x01#8, 0x02#8, 0x03#8, 0x04#8, 0x05#8, 0x06#8, 0x07#8,
      0x08#8, 0x09#8, 0x0A#8, 0x0B#8, 0x0C#8, 0x0D#8, 0x0E#8, 0x0F#8].map (fun op => decodeBytes 0xCB#8 op 0x12#8) =
     [.rlcB, .rlcC, .rlcD, .rlcE, .rlcH, .rlcL, .rlcAtHL, .rlcA, .rrcB, .rrcC, .rrcD, .rrcE, .rrcH, .rrcL, .rrcAtHL,
      .rrcA] := by decide

theorem test_decode_extended_1x :
    [0x10#8, 0x11#8, 0x12#8, 0x13#8, 0x14#8, 0x15#8, 0x16#8, 0x17#8,
      0x18#8, 0x19#8, 0x1A#8, 0x1B#8, 0x1C#8, 0x1D#8, 0x1E#8, 0x1F#8].map (fun op => decodeBytes 0xCB#8 op 0x12#8) =
     [.rlB, .rlC, .rlD, .rlE, .rlH, .rlL, .rlAtHL, .rlA, .rrB, .rrC, .rrD, .rrE, .rrH, .rrL, .rrAtHL, .rrA] := by decide

theorem test_decode_extended_2x :
    [0x20#8, 0x21#8, 0x22#8, 0x23#8, 0x24#8, 0x25#8, 0x26#8, 0x27#8,
      0x28#8, 0x29#8, 0x2A#8, 0x2B#8, 0x2C#8, 0x2D#8, 0x2E#8, 0x2F#8].map (fun op => decodeBytes 0xCB#8 op 0x12#8) =
     [.slaB, .slaC, .slaD, .slaE, .slaH, .slaL, .slaAtHL, .slaA, .sraB, .sraC, .sraD, .sraE, .sraH, .sraL, .sraAtHL,
      .sraA] := by decide

theorem test_decode_extended_3x :
    [0x30#8, 0x31#8, 0x32#8, 0x33#8, 0x34#8, 0x35#8, 0x36#8, 0x37#8,
      0x38#8, 0x39#8, 0x3A#8, 0x3B#8, 0x3C#8, 0x3D#8, 0x3E#8, 0x3F#8].map (fun op => decodeBytes 0xCB#8 op 0x12#8) =
     [.swapB, .swapC, .swapD, .swapE, .swapH, .swapL, .swapAtHL, .swapA, .srlB, .srlC, .srlD, .srlE, .srlH, .srlL,
      .srlAtHL, .srlA] := by decide

theorem test_decode_extended_4x :
    [0x40#8, 0x41#8, 0x42#8, 0x43#8, 0x44#8, 0x45#8, 0x46#8, 0x47#8,
      0x48#8, 0x49#8, 0x4A#8, 0x4B#8, 0x4C#8, 0x4D#8, 0x4E#8, 0x4F#8].map (fun op => decodeBytes 0xCB#8 op 0x12#8) =
     [.bit0B, .bit0C, .bit0D, .bit0E, .bit0H, .bit0L, .bit0AtHL, .bit0A, .bit1B, .bit1C, .bit1D, .bit1E, .bit1H,
      .bit1L, .bit1AtHL, .bit1A] := by decide

theorem test_decode_extended_5x :
    [0x50#8, 0x51#8, 0x52#8, 0x53#8, 0x54#8, 0x55#8, 0x56#8, 0x57#8,
      0x58#8, 0x59#8, 0x5A#8, 0x5B#8, 0x5C#8, 0x5D#8, 0x5E#8, 0x5F#8].map (fun op => decodeBytes 0xCB#8 op 0x12#8) =
     [.bit2B, .bit2C, .bit2D, .bit2E, .bit2H, .bit2L, .bit2AtHL, .bit2A, .bit3B, .bit3C, .bit3D, .bit3E, .bit3H,
      .bit3L, .bit3AtHL, .bit3A] := by decide

theorem test_decode_extended_6x :
    [0x60#8, 0x61#8, 0x62#8, 0x63#8, 0x64#8, 0x65#8, 0x66#8, 0x67#8,
      0x68#8, 0x69#8, 0x6A#8, 0x6B#8, 0x6C#8, 0x6D#8, 0x6E#8, 0x6F#8].map (fun op => decodeBytes 0xCB#8 op 0x12#8) =
     [.bit4B, .bit4C, .bit4D, .bit4E, .bit4H, .bit4L, .bit4AtHL, .bit4A, .bit5B, .bit5C, .bit5D, .bit5E, .bit5H,
      .bit5L, .bit5AtHL, .bit5A] := by decide

theorem test_decode_extended_7x :
    [0x70#8, 0x71#8, 0x72#8, 0x73#8, 0x74#8, 0x75#8, 0x76#8, 0x77#8,
      0x78#8, 0x79#8, 0x7A#8, 0x7B#8, 0x7C#8, 0x7D#8, 0x7E#8, 0x7F#8].map (fun op => decodeBytes 0xCB#8 op 0x12#8) =
     [.bit6B, .bit6C, .bit6D, .bit6E, .bit6H, .bit6L, .bit6AtHL, .bit6A, .bit7B, .bit7C, .bit7D, .bit7E, .bit7H,
      .bit7L, .bit7AtHL, .bit7A] := by decide

theorem test_decode_extended_8x :
    [0x80#8, 0x81#8, 0x82#8, 0x83#8, 0x84#8, 0x85#8, 0x86#8, 0x87#8,
      0x88#8, 0x89#8, 0x8A#8, 0x8B#8, 0x8C#8, 0x8D#8, 0x8E#8, 0x8F#8].map (fun op => decodeBytes 0xCB#8 op 0x12#8) =
     [.res0B, .res0C, .res0D, .res0E, .res0H, .res0L, .res0AtHL, .res0A, .res1B, .res1C, .res1D, .res1E, .res1H,
      .res1L, .res1AtHL, .res1A] := by decide

theorem test_decode_extended_9x :
    [0x90#8, 0x91#8, 0x92#8, 0x93#8, 0x94#8, 0x95#8, 0x96#8, 0x97#8,
      0x98#8, 0x99#8, 0x9A#8, 0x9B#8, 0x9C#8, 0x9D#8, 0x9E#8, 0x9F#8].map (fun op => decodeBytes 0xCB#8 op 0x12#8) =
     [.res2B, .res2C, .res2D, .res2E, .res2H, .res2L, .res2AtHL, .res2A, .res3B, .res3C, .res3D, .res3E, .res3H,
      .res3L, .res3AtHL, .res3A] := by decide

theorem test_decode_extended_Ax :
    [0xA0#8, 0xA1#8, 0xA2#8, 0xA3#8, 0xA4#8, 0xA5#8, 0xA6#8, 0xA7#8,
      0xA8#8, 0xA9#8, 0xAA#8, 0xAB#8, 0xAC#8, 0xAD#8, 0xAE#8, 0xAF#8].map (fun op => decodeBytes 0xCB#8 op 0x12#8) =
     [.res4B, .res4C, .res4D, .res4E, .res4H, .res4L, .res4AtHL, .res4A, .res5B, .res5C, .res5D, .res5E, .res5H,
      .res5L, .res5AtHL, .res5A] := by decide

theorem test_decode_extended_Bx :
    [0xB0#8, 0xB1#8, 0xB2#8, 0xB3#8, 0xB4#8, 0xB5#8, 0xB6#8, 0xB7#8,
      0xB8#8, 0xB9#8, 0xBA#8, 0xBB#8, 0xBC#8, 0xBD#8, 0xBE#8, 0xBF#8].map (fun op => decodeBytes 0xCB#8 op 0x12#8) =
     [.res6B, .res6C, .res6D, .res6E, .res6H, .res6L, .res6AtHL, .res6A, .res7B, .res7C, .res7D, .res7E, .res7H,
      .res7L, .res7AtHL, .res7A] := by decide

theorem test_decode_extended_Cx :
    [0xC0#8, 0xC1#8, 0xC2#8, 0xC3#8, 0xC4#8, 0xC5#8, 0xC6#8, 0xC7#8,
      0xC8#8, 0xC9#8, 0xCA#8, 0xCB#8, 0xCC#8, 0xCD#8, 0xCE#8, 0xCF#8].map (fun op => decodeBytes 0xCB#8 op 0x12#8) =
     [.set0B, .set0C, .set0D, .set0E, .set0H, .set0L, .set0AtHL, .set0A, .set1B, .set1C, .set1D, .set1E, .set1H,
      .set1L, .set1AtHL, .set1A] := by decide

theorem test_decode_extended_Dx :
    [0xD0#8, 0xD1#8, 0xD2#8, 0xD3#8, 0xD4#8, 0xD5#8, 0xD6#8, 0xD7#8,
      0xD8#8, 0xD9#8, 0xDA#8, 0xDB#8, 0xDC#8, 0xDD#8, 0xDE#8, 0xDF#8].map (fun op => decodeBytes 0xCB#8 op 0x12#8) =
     [.set2B, .set2C, .set2D, .set2E, .set2H, .set2L, .set2AtHL, .set2A, .set3B, .set3C, .set3D, .set3E, .set3H,
      .set3L, .set3AtHL, .set3A] := by decide

theorem test_decode_extended_Ex :
    [0xE0#8, 0xE1#8, 0xE2#8, 0xE3#8, 0xE4#8, 0xE5#8, 0xE6#8, 0xE7#8,
      0xE8#8, 0xE9#8, 0xEA#8, 0xEB#8, 0xEC#8, 0xED#8, 0xEE#8, 0xEF#8].map (fun op => decodeBytes 0xCB#8 op 0x12#8) =
     [.set4B, .set4C, .set4D, .set4E, .set4H, .set4L, .set4AtHL, .set4A, .set5B, .set5C, .set5D, .set5E, .set5H,
      .set5L, .set5AtHL, .set5A] := by decide

theorem test_decode_extended_Fx :
    [0xF0#8, 0xF1#8, 0xF2#8, 0xF3#8, 0xF4#8, 0xF5#8, 0xF6#8, 0xF7#8,
      0xF8#8, 0xF9#8, 0xFA#8, 0xFB#8, 0xFC#8, 0xFD#8, 0xFE#8, 0xFF#8].map (fun op => decodeBytes 0xCB#8 op 0x12#8) =
     [.set6B, .set6C, .set6D, .set6E, .set6H, .set6L, .set6AtHL, .set6A, .set7B, .set7C, .set7D, .set7E, .set7H,
      .set7L, .set7AtHL, .set7A] := by decide

/-! ## Instructions, one step each -/

/-- V1: LD B,A. -/
theorem test_V1_ld_b_a :
    look (put [(0x0100, 0x47)] { State.reset with a := 0x5A })
      (fun t => (t.b, t.pc, t.f, t.cycles)) =
      some (0x5A#8, 0x0101#16, 0xB0#8, some 4) := by decide

/-- V3: LD H,(HL). -/
theorem test_V3_ld_h_athl :
    look (put [(0xC000, 0x12), (0x0100, 0x66)] { State.reset with hl := 0xC000 })
      (fun t => (t.h, t.pc, t.f, t.cycles)) =
      some (0x12#8, 0x0101#16, 0xB0#8, some 8) := by decide

/-- V4: LD (HL),L. -/
theorem test_V4_ld_athl_l :
    look (put [(0x0100, 0x75)] { State.reset with hl := 0xC005 })
      (fun t => (t.pc, t.f, t.read 0xC005, t.cycles)) =
      some (0x0101#16, 0xB0#8, 0x05#8, some 8) := by decide

/-- V5: LD (HL),d8. -/
theorem test_V5_ld_athl_d8 :
    look (put [(0x0100, 0x36), (0x0101, 0x5A)] { State.reset with hl := 0xC000 })
      (fun t => (t.pc, t.f, t.read 0xC000, t.cycles)) =
      some (0x0102#16, 0xB0#8, 0x5A#8, some 12) := by decide

/-- V6: LD C,d8. -/
theorem test_V6_ld_c_d8 :
    look (put [(0x0100, 0x0E), (0x0101, 0xFF)] State.reset)
      (fun t => (t.c, t.pc, t.f, t.cycles)) =
      some (0xFF#8, 0x0102#16, 0xB0#8, some 8) := by decide

/-- V7: LD A,(BC). -/
theorem test_V7_ld_a_atbc :
    look (put [(0xC123, 0x77), (0x0100, 0x0A)] { State.reset with b := 0xC1, c := 0x23 })
      (fun t => (t.a, t.pc, t.f, t.cycles)) =
      some (0x77#8, 0x0101#16, 0xB0#8, some 8) := by decide

/-- V9: LD (BC),A. -/
theorem test_V9_ld_atbc_a :
    look (put [(0x0100, 0x02)] { State.reset with b := 0x80, c := 0x00, a := 0xAA })
      (fun t => (t.pc, t.f, t.read 0x8000, t.cycles)) =
      some (0x0101#16, 0xB0#8, 0xAA#8, some 8) := by decide

/-- V10: LD (DE),A (echo address). -/
theorem test_V10_ld_atde_a :
    look (put [(0x0100, 0x12)] { State.reset with d := 0xE0, e := 0x10, a := 0x99 })
      (fun t => (t.pc, t.f, t.read 0xC010, t.cycles)) =
      some (0x0101#16, 0xB0#8, 0x99#8, some 8) := by decide

/-- V11: LD A,(a16). -/
theorem test_V11_ld_a_ata16 :
    look (put [(0xC010, 0x42), (0x0100, 0xFA), (0x0101, 0x10), (0x0102, 0xC0)] State.reset)
      (fun t => (t.a, t.pc, t.f, t.cycles)) =
      some (0x42#8, 0x0103#16, 0xB0#8, some 16) := by decide

/-- V13: LDH (a8),A. -/
theorem test_V13_ldh_ata8_a :
    look (put [(0x0100, 0xE0), (0x0101, 0x80)] { State.reset with a := 0x3C })
      (fun t => (t.pc, t.f, t.read 0xFF80, t.cycles)) =
      some (0x0102#16, 0xB0#8, 0x3C#8, some 12) := by decide

/-- V14: LDH A,(a8). -/
theorem test_V14_ldh_a_ata8 :
    look (put [(0xFF80, 0xC3), (0x0100, 0xF0), (0x0101, 0x80)] State.reset)
      (fun t => (t.a, t.pc, t.f, t.cycles)) =
      some (0xC3#8, 0x0102#16, 0xB0#8, some 12) := by decide

/-- V15: LD A,(C). -/
theorem test_V15_ld_a_atc :
    look (put [(0xFF47, 0xE4), (0x0100, 0xF2)] { State.reset with c := 0x47 })
      (fun t => (t.a, t.pc, t.f, t.cycles)) =
      some (0xE4#8, 0x0101#16, 0xB0#8, some 8) := by decide

/-- V16: LD (C),A. -/
theorem test_V16_ld_atc_a :
    look (put [(0x0100, 0xE2)] { State.reset with c := 0x47, a := 0x1B })
      (fun t => (t.pc, t.f, t.read 0xFF47, t.cycles)) =
      some (0x0101#16, 0xB0#8, 0x1B#8, some 8) := by decide

/-- V17: LD (HL+),A (HL wraps; IE masked). -/
theorem test_V17_ld_athlinc_a_hl_wraps_ie_masked :
    look (put [(0x0100, 0x22)] { State.reset with hl := 0xFFFF, a := 0xFF })
      (fun t => (t.hl, t.pc, t.f, t.read 0xFFFF, t.cycles)) =
      some (0x0000#16, 0x0101#16, 0xB0#8, 0x1F#8, some 8) := by decide

/-- V19: LD A,(HL+). -/
theorem test_V19_ld_a_athlinc :
    look (put [(0xC0FF, 0x11), (0x0100, 0x2A)] { State.reset with hl := 0xC0FF })
      (fun t => (t.a, t.hl, t.pc, t.f, t.cycles)) =
      some (0x11#8, 0xC100#16, 0x0101#16, 0xB0#8, some 8) := by decide

/-- V20: LD A,(HL-). -/
theorem test_V20_ld_a_athldec :
    look (put [(0xC100, 0x22), (0x0100, 0x3A)] { State.reset with hl := 0xC100 })
      (fun t => (t.a, t.hl, t.pc, t.f, t.cycles)) =
      some (0x22#8, 0xC0FF#16, 0x0101#16, 0xB0#8, some 8) := by decide

/-- V21: LD SP,d16. -/
theorem test_V21_ld_sp_d16 :
    look (put [(0x0100, 0x31), (0x0101, 0x34), (0x0102, 0x12)] State.reset)
      (fun t => (t.sp, t.pc, t.f, t.cycles)) =
      some (0x1234#16, 0x0103#16, 0xB0#8, some 12) := by decide

/-- V23: LD (a16),SP. -/
theorem test_V23_ld_ata16_sp :
    look (put [(0x0100, 0x08), (0x0101, 0x00), (0x0102, 0xC1)] State.reset)
      (fun t => (t.pc, t.f, t.read 0xC100, t.read 0xC101, t.cycles)) =
      some (0x0103#16, 0xB0#8, 0xFE#8, 0xFF#8, some 20) := by decide

/-- V24: LD (a16),SP (echo end: low byte mirrored, high byte to OAM). -/
theorem test_V24_ld_ata16_sp :
    look (put [(0x0100, 0x08), (0x0101, 0xFF), (0x0102, 0xFD)] { State.reset with sp := 0xABCD })
      (fun t => (t.pc, t.f, t.read 0xDDFF, t.read 0xFE00, t.cycles)) =
      some (0x0103#16, 0xB0#8, 0xCD#8, 0xAB#8, some 20) := by decide

/-- V25: LD SP,HL. -/
theorem test_V25_ld_sp_hl :
    look (put [(0x0100, 0xF9)] State.reset)
      (fun t => (t.sp, t.pc, t.f, t.cycles)) =
      some (0x014D#16, 0x0101#16, 0xB0#8, some 8) := by decide

/-- V30: INC A. -/
theorem test_V30_inc_a :
    look (put [(0x0100, 0x3C)] { State.reset with a := 0xFF })
      (fun t => (t.a, t.pc, t.f, t.cycles)) =
      some (0x00#8, 0x0101#16, 0xB0#8, some 4) := by decide

/-- V32: DEC B. -/
theorem test_V32_dec_b :
    look (put [(0x0100, 0x05)] ({ State.reset with b := 0x00 }.setFlags ⟨false, false, false, false⟩))
      (fun t => (t.b, t.pc, t.f, t.cycles)) =
      some (0xFF#8, 0x0101#16, 0x60#8, some 4) := by decide

/-- V36: INC (HL). -/
theorem test_V36_inc_athl :
    look (put [(0xC000, 0x0F), (0x0100, 0x34)] { State.reset with hl := 0xC000 })
      (fun t => (t.pc, t.f, t.read 0xC000, t.cycles)) =
      some (0x0101#16, 0x30#8, 0x10#8, some 12) := by decide

/-- V37: DEC (HL). -/
theorem test_V37_dec_athl :
    look (put [(0xC000, 0x01), (0x0100, 0x35)] ({ State.reset with hl := 0xC000 }.setFlags ⟨false, false, false, true⟩))
      (fun t => (t.pc, t.f, t.read 0xC000, t.cycles)) =
      some (0x0101#16, 0xD0#8, 0x00#8, some 12) := by decide

/-- V38: INC (HL) on DIV (write resets it). -/
theorem test_V38_inc_athl_on_div :
    look (put [(0xFF04, 0x7F), (0x0100, 0x34)] { State.reset with hl := 0xFF04 })
      (fun t => (t.pc, t.f, t.read 0xFF04, t.cycles)) =
      some (0x0101#16, 0x30#8, 0x00#8, some 12) := by decide

/-- V39: INC BC. -/
theorem test_V39_inc_bc :
    look (put [(0x0100, 0x03)] { State.reset with b := 0xFF, c := 0xFF })
      (fun t => (t.b, t.c, t.pc, t.f, t.cycles)) =
      some (0x00#8, 0x00#8, 0x0101#16, 0xB0#8, some 8) := by decide

/-- V40: DEC SP. -/
theorem test_V40_dec_sp :
    look (put [(0x0100, 0x3B)] { State.reset with sp := 0x0000 })
      (fun t => (t.sp, t.pc, t.f, t.cycles)) =
      some (0xFFFF#16, 0x0101#16, 0xB0#8, some 8) := by decide

/-- V50: ADD A,B. -/
theorem test_V50_add_a_b :
    look (put [(0x0100, 0x80)] ({ State.reset with a := 0x3A, b := 0xC6 }.setFlags ⟨false, false, false, false⟩))
      (fun t => (t.a, t.pc, t.f, t.cycles)) =
      some (0x00#8, 0x0101#16, 0xB0#8, some 4) := by decide

/-- V52: ADD A,A. -/
theorem test_V52_add_a_a :
    look (put [(0x0100, 0x87)] ({ State.reset with a := 0x80 }.setFlags ⟨false, false, false, false⟩))
      (fun t => (t.a, t.pc, t.f, t.cycles)) =
      some (0x00#8, 0x0101#16, 0x90#8, some 4) := by decide

/-- V53: ADD A,(HL). -/
theorem test_V53_add_a_athl :
    look (put [(0xC000, 0x12), (0x0100, 0x86)] { State.reset with a := 0x3C, hl := 0xC000 })
      (fun t => (t.a, t.pc, t.f, t.cycles)) =
      some (0x4E#8, 0x0101#16, 0x00#8, some 8) := by decide

/-- V54: ADC A,d8. -/
theorem test_V54_adc_a_d8 :
    look (put [(0x0100, 0xCE), (0x0101, 0x00)] ({ State.reset with a := 0xFF }.setFlags ⟨false, false, false, true⟩))
      (fun t => (t.a, t.pc, t.f, t.cycles)) =
      some (0x00#8, 0x0102#16, 0xB0#8, some 8) := by decide

/-- V57: ADC A,d8 (carry-in alone makes the half carry). -/
theorem test_V57_adc_a_d8 :
    look (put [(0x0100, 0xCE), (0x0101, 0x0F)] ({ State.reset with a := 0x00 }.setFlags ⟨false, false, false, true⟩))
      (fun t => (t.a, t.pc, t.f, t.cycles)) =
      some (0x10#8, 0x0102#16, 0x20#8, some 8) := by decide

/-- V58: SUB B. -/
theorem test_V58_sub_b :
    look (put [(0x0100, 0x90)] ({ State.reset with a := 0x3E, b := 0x3E }.setFlags ⟨false, false, false, false⟩))
      (fun t => (t.a, t.pc, t.f, t.cycles)) =
      some (0x00#8, 0x0101#16, 0xC0#8, some 4) := by decide

/-- V60: SUB (HL). -/
theorem test_V60_sub_athl :
    look (put [(0xC000, 0x40), (0x0100, 0x96)] ({ State.reset with a := 0x3E, hl := 0xC000 }.setFlags ⟨false, false, false, false⟩))
      (fun t => (t.a, t.pc, t.f, t.cycles)) =
      some (0xFE#8, 0x0101#16, 0x50#8, some 8) := by decide

/-- V62: SBC A,(HL). -/
theorem test_V62_sbc_a_athl :
    look (put [(0xC000, 0x4F), (0x0100, 0x9E)] ({ State.reset with a := 0x3B, hl := 0xC000 }.setFlags ⟨false, false, false, true⟩))
      (fun t => (t.a, t.pc, t.f, t.cycles)) =
      some (0xEB#8, 0x0101#16, 0x70#8, some 8) := by decide

/-- V64: SBC A,d8 (borrow-in alone makes both borrows). -/
theorem test_V64_sbc_a_d8 :
    look (put [(0x0100, 0xDE), (0x0101, 0xFF)] ({ State.reset with a := 0x00 }.setFlags ⟨false, false, false, true⟩))
      (fun t => (t.pc, t.f, t.cycles)) =
      some (0x0102#16, 0xF0#8, some 8) := by decide

/-- V65: AND d8. -/
theorem test_V65_and_d8 :
    look (put [(0x0100, 0xE6), (0x0101, 0x0F)] { State.reset with a := 0xF0 })
      (fun t => (t.a, t.pc, t.f, t.cycles)) =
      some (0x00#8, 0x0102#16, 0xA0#8, some 8) := by decide

/-- V67: XOR A. -/
theorem test_V67_xor_a :
    look (put [(0x0100, 0xAF)] { State.reset with a := 0x77 })
      (fun t => (t.a, t.pc, t.f, t.cycles)) =
      some (0x00#8, 0x0101#16, 0x80#8, some 4) := by decide

/-- V69: OR (HL). -/
theorem test_V69_or_athl :
    look (put [(0xC000, 0x0F), (0x0100, 0xB6)] { State.reset with a := 0x5A, hl := 0xC000 })
      (fun t => (t.a, t.pc, t.f, t.cycles)) =
      some (0x5F#8, 0x0101#16, 0x00#8, some 8) := by decide

/-- V71: CP d8. -/
theorem test_V71_cp_d8 :
    look (put [(0x0100, 0xFE), (0x0101, 0x90)] ({ State.reset with a := 0x3C }.setFlags ⟨false, false, false, false⟩))
      (fun t => (t.pc, t.f, t.cycles)) =
      some (0x0102#16, 0x50#8, some 8) := by decide

/-- V80: ADD HL,BC. -/
theorem test_V80_add_hl_bc :
    look (put [(0x0100, 0x09)] ({ State.reset with hl := 0x8A23, b := 0x06, c := 0x05 }.setFlags ⟨false, false, false, false⟩))
      (fun t => (t.hl, t.pc, t.f, t.cycles)) =
      some (0x9028#16, 0x0101#16, 0x20#8, some 8) := by decide

/-- V82: ADD HL,SP (result 0, fZ not written). -/
theorem test_V82_add_hl_sp :
    look (put [(0x0100, 0x39)] ({ State.reset with hl := 0x0001, sp := 0xFFFF }.setFlags ⟨false, false, false, false⟩))
      (fun t => (t.l, t.pc, t.f, t.cycles)) =
      some (0x00#8, 0x0101#16, 0x30#8, some 8) := by decide

/-- V85: ADD SP,e8 (-1). -/
theorem test_V85_add_sp_e8 :
    look (put [(0x0100, 0xE8), (0x0101, 0xFF)] ({ State.reset with sp := 0x0001 }.setFlags ⟨false, false, false, false⟩))
      (fun t => (t.sp, t.pc, t.f, t.cycles)) =
      some (0x0000#16, 0x0102#16, 0x30#8, some 16) := by decide

/-- V88: LD HL,SP+e8 (+2). -/
theorem test_V88_ld_hl_sp_e8 :
    look (put [(0x0100, 0xF8), (0x0101, 0x02)] { State.reset with sp := 0xFFF8 })
      (fun t => (t.hl, t.pc, t.f, t.cycles)) =
      some (0xFFFA#16, 0x0102#16, 0x00#8, some 12) := by decide

/-- V100: RLCA. -/
theorem test_V100_rlca :
    look (put [(0x0100, 0x07)] ({ State.reset with a := 0x85 }.setFlags ⟨false, false, false, false⟩))
      (fun t => (t.a, t.pc, t.f, t.cycles)) =
      some (0x0B#8, 0x0101#16, 0x10#8, some 4) := by decide

/-- V101: RLCA (result 0: fZ = 0). -/
theorem test_V101_rlca :
    look (put [(0x0100, 0x07)] ({ State.reset with a := 0x00 }.setFlags ⟨true, true, true, true⟩))
      (fun t => (t.pc, t.f, t.cycles)) =
      some (0x0101#16, 0x00#8, some 4) := by decide

/-- V102: RRCA. -/
theorem test_V102_rrca :
    look (put [(0x0100, 0x0F)] ({ State.reset with a := 0x3B }.setFlags ⟨false, false, false, false⟩))
      (fun t => (t.a, t.pc, t.f, t.cycles)) =
      some (0x9D#8, 0x0101#16, 0x10#8, some 4) := by decide

/-- V103: RLA. -/
theorem test_V103_rla :
    look (put [(0x0100, 0x17)] ({ State.reset with a := 0x95 }.setFlags ⟨false, false, false, true⟩))
      (fun t => (t.a, t.pc, t.f, t.cycles)) =
      some (0x2B#8, 0x0101#16, 0x10#8, some 4) := by decide

/-- V105: RRA. -/
theorem test_V105_rra :
    look (put [(0x0100, 0x1F)] ({ State.reset with a := 0x81 }.setFlags ⟨false, false, false, false⟩))
      (fun t => (t.a, t.pc, t.f, t.cycles)) =
      some (0x40#8, 0x0101#16, 0x10#8, some 4) := by decide

/-- V106: RLC B. -/
theorem test_V106_rlc_b :
    look (put [(0x0100, 0xCB), (0x0101, 0x00)] ({ State.reset with b := 0x85 }.setFlags ⟨false, false, false, false⟩))
      (fun t => (t.b, t.pc, t.f, t.cycles)) =
      some (0x0B#8, 0x0102#16, 0x10#8, some 8) := by decide

/-- V109: RRC (HL). -/
theorem test_V109_rrc_athl :
    look (put [(0xC000, 0x02), (0x0100, 0xCB), (0x0101, 0x0E)] { State.reset with hl := 0xC000 })
      (fun t => (t.pc, t.f, t.read 0xC000, t.cycles)) =
      some (0x0102#16, 0x00#8, 0x01#8, some 16) := by decide

/-- V111: RL (HL). -/
theorem test_V111_rl_athl :
    look (put [(0xC000, 0x11), (0x0100, 0xCB), (0x0101, 0x16)] ({ State.reset with hl := 0xC000 }.setFlags ⟨false, false, false, true⟩))
      (fun t => (t.pc, t.f, t.read 0xC000, t.cycles)) =
      some (0x0102#16, 0x00#8, 0x23#8, some 16) := by decide

/-- V112: RR D. -/
theorem test_V112_rr_d :
    look (put [(0x0100, 0xCB), (0x0101, 0x1A)] ({ State.reset with d := 0x01 }.setFlags ⟨false, false, false, false⟩))
      (fun t => (t.d, t.pc, t.f, t.cycles)) =
      some (0x00#8, 0x0102#16, 0x90#8, some 8) := by decide

/-- V114: SLA A. -/
theorem test_V114_sla_a :
    look (put [(0x0100, 0xCB), (0x0101, 0x27)] ({ State.reset with a := 0x80 }.setFlags ⟨false, false, false, false⟩))
      (fun t => (t.a, t.pc, t.f, t.cycles)) =
      some (0x00#8, 0x0102#16, 0x90#8, some 8) := by decide

/-- V116: SRA A. -/
theorem test_V116_sra_a :
    look (put [(0x0100, 0xCB), (0x0101, 0x2F)] ({ State.reset with a := 0x8A }.setFlags ⟨false, false, false, false⟩))
      (fun t => (t.a, t.pc, t.f, t.cycles)) =
      some (0xC5#8, 0x0102#16, 0x00#8, some 8) := by decide

/-- V118: SWAP A. -/
theorem test_V118_swap_a :
    look (put [(0x0100, 0xCB), (0x0101, 0x37)] { State.reset with a := 0xF1 })
      (fun t => (t.a, t.pc, t.f, t.cycles)) =
      some (0x1F#8, 0x0102#16, 0x00#8, some 8) := by decide

/-- V121: SRL (HL). -/
theorem test_V121_srl_athl :
    look (put [(0xC000, 0xFF), (0x0100, 0xCB), (0x0101, 0x3E)] ({ State.reset with hl := 0xC000 }.setFlags ⟨false, false, false, false⟩))
      (fun t => (t.pc, t.f, t.read 0xC000, t.cycles)) =
      some (0x0102#16, 0x10#8, 0x7F#8, some 16) := by decide

/-- V122: SLA (HL) in ROM (read, write ignored, flags still set). -/
theorem test_V122_sla_athl_in_rom :
    look (put [(0x0100, 0xCB), (0x0101, 0x26)] ({ State.reset with hl := 0x0100 }.setFlags ⟨false, false, false, false⟩))
      (fun t => (t.pc, t.f, t.cycles)) =
      some (0x0102#16, 0x10#8, some 16) := by decide

/-- V130: BIT 7,A. -/
theorem test_V130_bit_7_a :
    look (put [(0x0100, 0xCB), (0x0101, 0x7F)] ({ State.reset with a := 0x80 }.setFlags ⟨false, true, false, true⟩))
      (fun t => (t.pc, t.f, t.cycles)) =
      some (0x0102#16, 0x30#8, some 8) := by decide

/-- V132: BIT 0,(HL). -/
theorem test_V132_bit_0_athl :
    look (put [(0xC000, 0xFE), (0x0100, 0xCB), (0x0101, 0x46)] ({ State.reset with hl := 0xC000 }.setFlags ⟨false, false, false, false⟩))
      (fun t => (t.pc, t.f, t.cycles)) =
      some (0x0102#16, 0xA0#8, some 12) := by decide

/-- V134: RES 0,A. -/
theorem test_V134_res_0_a :
    look (put [(0x0100, 0xCB), (0x0101, 0x87)] { State.reset with a := 0xFF })
      (fun t => (t.a, t.pc, t.f, t.cycles)) =
      some (0xFE#8, 0x0102#16, 0xB0#8, some 8) := by decide

/-- V135: RES 3,(HL). -/
theorem test_V135_res_3_athl :
    look (put [(0xC000, 0xFF), (0x0100, 0xCB), (0x0101, 0x9E)] { State.reset with hl := 0xC000 })
      (fun t => (t.pc, t.f, t.read 0xC000, t.cycles)) =
      some (0x0102#16, 0xB0#8, 0xF7#8, some 16) := by decide

/-- V136: SET 3,A. -/
theorem test_V136_set_3_a :
    look (put [(0x0100, 0xCB), (0x0101, 0xDF)] { State.reset with a := 0x80 })
      (fun t => (t.a, t.pc, t.f, t.cycles)) =
      some (0x88#8, 0x0102#16, 0xB0#8, some 8) := by decide

/-- V138: RES 7,(HL) on LCDC (display off: LY reset). -/
theorem test_V138_res_7_athl_on_lcdc :
    look (put [(0xFF40, 0x91), (0xFF44, 0x55), (0x0100, 0xCB), (0x0101, 0xBE)] { State.reset with hl := 0xFF40 })
      (fun t => (t.pc, t.f, t.read 0xFF40, t.read 0xFF44, t.cycles)) =
      some (0x0102#16, 0xB0#8, 0x11#8, 0x00#8, some 16) := by decide

/-- V139: SET 5,(HL) on IF (masked to 5 bits). -/
theorem test_V139_set_5_athl_on_if :
    look (put [(0xFF0F, 0x01), (0x0100, 0xCB), (0x0101, 0xEE)] { State.reset with hl := 0xFF0F })
      (fun t => (t.pc, t.f, t.read 0xFF0F, t.cycles)) =
      some (0x0102#16, 0xB0#8, 0x01#8, some 16) := by decide

/-- V151: JP NZ,a16 (not taken). -/
theorem test_V151_jp_nz_a16 :
    look (put [(0x0100, 0xC2), (0x0101, 0x00), (0x0102, 0x80)] State.reset)
      (fun t => (t.pc, t.f, t.cycles)) =
      some (0x0103#16, 0xB0#8, some 12) := by decide

/-- V153: JP NC,a16 (taken). -/
theorem test_V153_jp_nc_a16 :
    look (put [(0x0100, 0xD2), (0x0101, 0x34), (0x0102, 0x12)] (State.reset.setFlags ⟨false, false, false, false⟩))
      (fun t => (t.pc, t.f, t.cycles)) =
      some (0x1234#16, 0x00#8, some 16) := by decide

/-- V154: JP (HL). -/
theorem test_V154_jp_athl :
    look (put [(0x0100, 0xE9)] State.reset)
      (fun t => (t.pc, t.f, t.cycles)) =
      some (0x014D#16, 0xB0#8, some 4) := by decide

/-- V157: JR e8 (-128). -/
theorem test_V157_jr_e8 :
    look (put [(0x0100, 0x18), (0x0101, 0x80)] State.reset)
      (fun t => (t.pc, t.f, t.cycles)) =
      some (0x0082#16, 0xB0#8, some 12) := by decide

/-- V158: JR e8 (wraps below 0). -/
theorem test_V158_jr_e8 :
    look (put [(0x0010, 0x18), (0x0011, 0x80)] { State.reset with pc := 0x0010 })
      (fun t => (t.pc, t.f, t.cycles)) =
      some (0xFF92#16, 0xB0#8, some 12) := by decide

/-- V160: JR C,e8 (taken). -/
theorem test_V160_jr_c_e8 :
    look (put [(0x0100, 0x38), (0x0101, 0x05)] State.reset)
      (fun t => (t.pc, t.f, t.cycles)) =
      some (0x0107#16, 0xB0#8, some 12) := by decide

/-- V161: CALL a16. -/
theorem test_V161_call_a16 :
    look (put [(0x0100, 0xCD), (0x0101, 0x34), (0x0102, 0x12)] State.reset)
      (fun t => (t.sp, t.pc, t.read 0xFFFC, t.read 0xFFFD, t.cycles)) =
      some (0xFFFC#16, 0x1234#16, 0x03#8, 0x01#8, some 24) := by decide

/-- V163: CALL Z,a16 (taken). -/
theorem test_V163_call_z_a16 :
    look (put [(0x0100, 0xCC), (0x0101, 0x34), (0x0102, 0x12)] { State.reset with sp := 0xD000 })
      (fun t => (t.sp, t.pc, t.read 0xCFFE, t.read 0xCFFF, t.cycles)) =
      some (0xCFFE#16, 0x1234#16, 0x03#8, 0x01#8, some 24) := by decide

/-- V164: RET. -/
theorem test_V164_ret :
    look (put [(0xC000, 0x78), (0xC001, 0x56), (0x0100, 0xC9)] { State.reset with sp := 0xC000 })
      (fun t => (t.sp, t.pc, t.f, t.cycles)) =
      some (0xC002#16, 0x5678#16, 0xB0#8, some 16) := by decide

/-- V165: RET Z (taken). -/
theorem test_V165_ret_z :
    look (put [(0xC000, 0x78), (0xC001, 0x56), (0x0100, 0xC8)] { State.reset with sp := 0xC000 })
      (fun t => (t.sp, t.pc, t.f, t.cycles)) =
      some (0xC002#16, 0x5678#16, 0xB0#8, some 20) := by decide

/-- V166: RET NZ (not taken). -/
theorem test_V166_ret_nz :
    look (put [(0xC000, 0x78), (0xC001, 0x56), (0x0100, 0xC0)] { State.reset with sp := 0xC000 })
      (fun t => (t.pc, t.f, t.cycles)) =
      some (0x0101#16, 0xB0#8, some 8) := by decide

/-- V167: RETI. -/
theorem test_V167_reti :
    look (put [(0xC000, 0x78), (0xC001, 0x56), (0x0100, 0xD9)] { State.reset with sp := 0xC000 })
      (fun t => (t.sp, t.pc, t.ime, t.f, t.cycles)) =
      some (0xC002#16, 0x5678#16, true, 0xB0#8, some 16) := by decide

/-- V168: RST 38H. -/
theorem test_V168_rst_38h :
    look (put [(0x0100, 0xFF)] State.reset)
      (fun t => (t.sp, t.pc, t.read 0xFFFC, t.read 0xFFFD, t.cycles)) =
      some (0xFFFC#16, 0x0038#16, 0x01#8, 0x01#8, some 16) := by decide

/-- V170: RST 10H at the last ROM byte (return address 0x8000). -/
theorem test_V170_rst_10h_at_the_last_rom_byte :
    look (put [(0x7FFF, 0xD7)] { State.reset with sp := 0xC002, pc := 0x7FFF })
      (fun t => (t.sp, t.pc, t.read 0xC000, t.read 0xC001, t.cycles)) =
      some (0xC000#16, 0x0010#16, 0x00#8, 0x80#8, some 16) := by decide

/-- V180: PUSH BC. -/
theorem test_V180_push_bc :
    look (put [(0x0100, 0xC5)] State.reset)
      (fun t => (t.sp, t.pc, t.f, t.read 0xFFFC, t.cycles)) =
      some (0xFFFC#16, 0x0101#16, 0xB0#8, 0x13#8, some 16) := by decide

/-- V181: PUSH AF. -/
theorem test_V181_push_af :
    look (put [(0x0100, 0xF5)] State.reset)
      (fun t => (t.sp, t.pc, t.read 0xFFFC, t.read 0xFFFD, t.cycles)) =
      some (0xFFFC#16, 0x0101#16, 0xB0#8, 0x01#8, some 16) := by decide

/-- V182: PUSH HL (SP wraps; high byte to ROM ignored, low byte to IE masked). -/
theorem test_V182_push_hl :
    look (put [(0x0100, 0xE5)] { State.reset with hl := 0xFFFF, sp := 0x0001 })
      (fun t => (t.sp, t.pc, t.f, t.read 0xFFFF, t.cycles)) =
      some (0xFFFF#16, 0x0101#16, 0xB0#8, 0x1F#8, some 16) := by decide

/-- V183: POP AF (low nibble dropped). -/
theorem test_V183_pop_af :
    look (put [(0xC000, 0xFF), (0xC001, 0x12), (0x0100, 0xF1)] { State.reset with sp := 0xC000 })
      (fun t => (t.a, t.sp, t.pc, t.f, t.cycles)) =
      some (0x12#8, 0xC002#16, 0x0101#16, 0xF0#8, some 12) := by decide

/-- V185: POP HL. -/
theorem test_V185_pop_hl :
    look (put [(0xC000, 0xCD), (0xC001, 0xAB), (0x0100, 0xE1)] { State.reset with sp := 0xC000 })
      (fun t => (t.hl, t.sp, t.pc, t.f, t.cycles)) =
      some (0xABCD#16, 0xC002#16, 0x0101#16, 0xB0#8, some 12) := by decide

/-- V186: POP BC (SP wraps: low byte from IE, high byte from ROM[0]). -/
theorem test_V186_pop_bc :
    look (put [(0xFFFF, 0x15), (0x0100, 0xC1)] { State.reset with sp := 0xFFFF })
      (fun t => (t.c, t.sp, t.pc, t.f, t.cycles)) =
      some (0x15#8, 0x0001#16, 0x0101#16, 0xB0#8, some 12) := by decide

/-- V200: DAA. -/
theorem test_V200_daa :
    look (put [(0x0100, 0x27)] ({ State.reset with a := 0x0F }.setFlags ⟨false, false, true, false⟩))
      (fun t => (t.a, t.pc, t.f, t.cycles)) =
      some (0x15#8, 0x0101#16, 0x00#8, some 4) := by decide

/-- V203: DAA. -/
theorem test_V203_daa :
    look (put [(0x0100, 0x27)] ({ State.reset with a := 0xFF }.setFlags ⟨false, false, false, false⟩))
      (fun t => (t.a, t.pc, t.f, t.cycles)) =
      some (0x65#8, 0x0101#16, 0x10#8, some 4) := by decide

/-- V209: DAA (after subtract, both). -/
theorem test_V209_daa :
    look (put [(0x0100, 0x27)] ({ State.reset with a := 0x9A }.setFlags ⟨false, true, true, true⟩))
      (fun t => (t.a, t.pc, t.f, t.cycles)) =
      some (0x34#8, 0x0101#16, 0x50#8, some 4) := by decide

/-- V211: DAA (after subtract to 0). -/
theorem test_V211_daa :
    look (put [(0x0100, 0x27)] ({ State.reset with a := 0x66 }.setFlags ⟨false, true, true, true⟩))
      (fun t => (t.a, t.pc, t.f, t.cycles)) =
      some (0x00#8, 0x0101#16, 0xD0#8, some 4) := by decide

/-- V213: CPL (fZ, fC kept). -/
theorem test_V213_cpl :
    look (put [(0x0100, 0x2F)] ({ State.reset with a := 0xFF }.setFlags ⟨true, false, false, true⟩))
      (fun t => (t.a, t.pc, t.f, t.cycles)) =
      some (0x00#8, 0x0101#16, 0xF0#8, some 4) := by decide

/-- V214: SCF. -/
theorem test_V214_scf :
    look (put [(0x0100, 0x37)] (State.reset.setFlags ⟨true, true, true, false⟩))
      (fun t => (t.pc, t.f, t.cycles)) =
      some (0x0101#16, 0x90#8, some 4) := by decide

/-- V215: CCF. -/
theorem test_V215_ccf :
    look (put [(0x0100, 0x3F)] (State.reset.setFlags ⟨true, true, true, true⟩))
      (fun t => (t.pc, t.f, t.cycles)) =
      some (0x0101#16, 0x80#8, some 4) := by decide

/-- V217: DI. -/
theorem test_V217_di :
    look (put [(0x0100, 0xF3)] { State.reset with ime := true })
      (fun t => (t.pc, t.ime, t.f, t.cycles)) =
      some (0x0101#16, false, 0xB0#8, some 4) := by decide

/-- V218: EI. -/
theorem test_V218_ei :
    look (put [(0x0100, 0xFB)] State.reset)
      (fun t => (t.pc, t.ime, t.f, t.cycles)) =
      some (0x0101#16, true, 0xB0#8, some 4) := by decide

/-- V219: HALT (IME = 1). -/
theorem test_V219_halt :
    look (put [(0x0100, 0x76)] { State.reset with ime := true })
      (fun t => (t.pc, t.halted, t.f, t.cycles)) =
      some (0x0101#16, true, 0xB0#8, some 4) := by decide

/-- V220: HALT (IME = 0). -/
theorem test_V220_halt :
    look (put [(0x0100, 0x76)] State.reset)
      (fun t => (t.pc, t.f, t.cycles, t.fault)) =
      some (0x0101#16, 0xB0#8, none, some ⟨.haltWithIMEClear, 0x0100#16, 0x76#8⟩) := by decide

/-- V221: STOP. -/
theorem test_V221_stop :
    look (put [(0x0100, 0x10)] State.reset)
      (fun t => (t.pc, t.stopped, t.f, t.cycles)) =
      some (0x0101#16, true, 0xB0#8, some 4) := by decide

/-- V222: NOP. -/
theorem test_V222_nop :
    look (put [(0x0100, 0x00)] State.reset)
      (fun t => (t.pc, t.f, t.cycles)) =
      some (0x0101#16, 0xB0#8, some 0) := by decide

/-- V230: ILLEGAL_D3. -/
theorem test_V230_illegal_d3 :
    look (put [(0x0100, 0xD3), (0x0101, 0x12), (0x0102, 0x34)] State.reset)
      (fun t => (t.pc, t.f, t.cycles, t.fault)) =
      some (0x0101#16, 0xB0#8, none, some ⟨.unimplementedOpcode, 0x0100#16, 0xD3#8⟩) := by decide

/-- V240: ILLEGAL_FD. -/
theorem test_V240_illegal_fd :
    look (put [(0x0100, 0xFD), (0x0101, 0x12), (0x0102, 0x34)] State.reset)
      (fun t => (t.pc, t.f, t.cycles, t.fault)) =
      some (0x0101#16, 0xB0#8, none, some ⟨.unimplementedOpcode, 0x0100#16, 0xFD#8⟩) := by decide

/-! ## The bus -/

/-- V250: the selected bank shows at 0x4000, bank 0 at 0x0000. -/
theorem test_V250_bank_select :
    (mbc1Bus.read 0x4000, (mbc1Bus.write 0x2000 0x02).read 0x4000, (mbc1Bus.write 0x2000 0x02).read 0x0000) =
      (0x01#8, 0x02#8, 0x00#8) := by decide

/-- V251, V252: a bank number whose low five bits are 0 selects bank 1. -/
theorem test_V251_bank_zero :
    (((mbc1Bus.write 0x2000 0x05).write 0x3FFF 0x00).romBank, (mbc1Bus.write 0x2000 0x20).read 0x4000) =
      (1#5, 0x01#8) := by decide

/-- V253: bits 7:5 of the bank command are dropped. -/
theorem test_V253_bank_mask :
    ((mbc1Bus.write 0x2000 0xE3).read 0x4000, (mbc1Bus.write 0x2000 0xE3).romBank) = (0x03#8, 3#5) := by decide

/-- V255: the mode bit is bit 0 of the last byte written to 0x6000..0x7FFF. -/
theorem test_V255_mode : (((mbc1Bus.write 0x6000 0x01).write 0x7FFF 0xFE).write 0x6000 0xFF).mbc1Mode = true := by decide

/-- V256: the RAM-enable and upper-bank windows have no effect. -/
theorem test_V256_ignored_commands :
    ((((mbc1Bus.write 0x0000 0x0A).write 0x1FFF 0x03).write 0x4000 0x03).write 0x5FFF 0x03) = mbc1Bus := by decide

/-- V257: with no bank controller every write below 0x8000 is ignored. -/
theorem test_V257_no_controller : ((Bus.reset.write 0x2000 0x02).write 0x6000 0x01).write 0x0100 0xFF = Bus.reset := by
  decide

/-- V258: the echo range shares its bytes. -/
theorem test_V258_echo :
    ((Bus.reset.write 0xC010 0x42).read 0xE010, (Bus.reset.write 0xE010 0x99).read 0xC010) = (0x42#8, 0x99#8) := by decide

/-- V259: 0xDE00 and 0xFE00 are two bytes; 0xFDFF is 0xDDFF. -/
theorem test_V259_echo_end :
    let b := ((Bus.reset.write 0xFDFF 0x11).write 0xDE00 0x22).write 0xFE00 0x33
    (b.read 0xDDFF, b.read 0xDE00, b.read 0xFE00) = (0x11#8, 0x22#8, 0x33#8) := by decide

/-- V260, V261: a write to DIV or LY stores 0. -/
theorem test_V260_div_ly :
    let b : Bus := { Bus.reset with mem := [(0xFF04, 0xAB), (0xFF44, 0x90)] }
    ((b.write 0xFF04 0x55).read 0xFF04, (b.write 0xFF44 0x77).read 0xFF44) = (0x00#8, 0x00#8) := by decide

/-- V262: turning the display on clears LY. -/
theorem test_V262_lcd_on :
    let b : Bus := { Bus.reset with mem := [(0xFF44, 0x55)] }
    ((b.write 0xFF40 0x80).read 0xFF40, (b.write 0xFF40 0x80).read 0xFF44) = (0x80#8, 0x00#8) := by decide

/-- V263: with bit 7 as it was, LY stays. -/
theorem test_V263_lcd_same :
    let b : Bus := { Bus.reset with mem := [(0xFF40, 0x80), (0xFF44, 0x55)] }
    ((b.write 0xFF40 0x91).read 0xFF40, (b.write 0xFF40 0x91).read 0xFF44) = (0x91#8, 0x55#8) := by decide

/-- V265: STAT stores its byte whole. -/
theorem test_V265_stat : (Bus.reset.write 0xFF41 0xFF).read 0xFF41 = 0xFF#8 := by decide

/-- V266: IF and IE keep five bits. -/
theorem test_V266_masks :
    ((Bus.reset.write 0xFF0F 0xFF).read 0xFF0F, (Bus.reset.write 0xFFFF 0xE4).read 0xFFFF) = (0x1F#8, 0x04#8) := by decide

/-- V267: a write to P1 goes out and leaves the byte. -/
theorem test_V267_joypad :
    let b : Bus := { Bus.reset with mem := [(0xFF00, 0xCF)] }
    ((b.write 0xFF00 0x20).read 0xFF00, (b.write 0xFF00 0x20).joypadOut) = (0xCF#8, [0x20#8]) := by decide

/-- V268: palettes and plain bytes of the page. -/
theorem test_V268_palette :
    let b := (Bus.reset.write 0xFF47 0xE4).write 0xFF80 0xAA
    (b.read 0xFF47, b.bgp, b.read 0xFF80) = (0xE4#8, ⟨0, 1, 2, 3⟩, 0xAA#8) := by decide

set_option maxRecDepth 8000 in
/-- V271: an OAM copy through the echo range, its first and last byte, and the trigger. -/
theorem test_V271_oam_copy :
    let b : Bus := { Bus.reset with mem := [(0xC000, 0x80), (0xC09F, 0x1F), (0xC0A0, 0x77)] }
    let c := b.write 0xFF46 0xE0
    (c.read 0xFE00, c.read 0xFE9F, c.read 0xFEA0, c.read 0xFF46) = (0x80#8, 0x1F#8, 0x00#8, 0xE0#8) := by decide

/-- V272: VRAM, external RAM and the hole above OAM store their bytes; VRAM is marked. -/
theorem test_V272_plain :
    let b := ((Bus.reset.write 0x9FFF 0x34).write 0xA000 0x56).write 0xFEA0 0x78
    (b.read 0x9FFF, b.read 0xA000, b.read 0xFEA0, b.vramDirty) = (0x34#8, 0x56#8, 0x78#8, [0x9FFF]) := by decide

/-! ## The interrupt check -/

/-- V280: the lowest-numbered request is dispatched. -/
theorem test_V280_dispatch :
    let t := (checkState true 0x11 0x11).interruptCheck
    (t.pc, t.sp, t.ime, t.dispatchCycles) = (0x0040#16, 0xFFFC#16, false, some 20) ∧
      (t.read 0xFF0F, t.read 0xFFFC, t.read 0xFFFD) = (0x10#8, 0x50#8, 0x01#8) := by decide

/-- V281: a second check dispatches nothing. -/
theorem test_V281_one_dispatch :
    let t := (checkState true 0x11 0x11).interruptCheck.interruptCheck
    (t.pc, t.sp, t.read 0xFF0F, t.dispatchCycles) = (0x0040#16, 0xFFFC#16, 0x10#8, some 0) := by decide

/-- V283, V285: no dispatch with IME = 0, none without an enabled request. -/
theorem test_V283_no_dispatch :
    ((checkState false 0x1F 0x1F).interruptCheck.pc, (checkState true 0x02 0x1D).interruptCheck.pc) =
      (0x0150#16, 0x0150#16) := by decide

/-- V286 to V288: the vectors of requests 2, 3 and 4. -/
theorem test_V286_vectors :
    ((checkState true 0x1E 0x1C).interruptCheck.pc, (checkState true 0x18 0x08).interruptCheck.pc,
      (checkState true 0x10 0x1F).interruptCheck.pc) = (0x0050#16, 0x0058#16, 0x0060#16) := by decide

/-- V289: the pushed high byte goes to ROM and is ignored, the low byte to IE and is masked. -/
theorem test_V289_push_into_ie :
    let t := { checkState true 0x02 0x02 with sp := 0x0001 }.interruptCheck
    (t.pc, t.sp, t.read 0xFF0F, t.read 0xFFFF) = (0x0048#16, 0xFFFF#16, 0x00#8, 0x10#8) := by decide

/-- V290: the environment's request ends a halt and is dispatched at the same boundary. -/
theorem test_V290_halt_exit :
    look { checkState true 0x00 0x04 with halted := true, env := [⟨4#5, []⟩] }
      (fun t => (t.pc, t.halted, t.read 0xFF0F, t.dispatchCycles)) =
      some (0x0050#16, false, 0x00#8, some 20) := by decide

/-- V291: a request that is not enabled leaves the core halted. -/
theorem test_V291_halt_stays :
    look { checkState true 0x01 0x04 with halted := true } (fun t => (t.pc, t.halted, t.cycles, t.dispatchCycles)) =
      some (0x0150#16, true, some 4, some 0) := by decide

/-- V292: the halt exit does not look at IME. -/
theorem test_V292_halt_exit_without_ime :
    let t := { checkState false 0x01 0x01 with halted := true }.interruptCheck
    (t.pc, t.halted, t.dispatchCycles) = (0x0150#16, false, some 0) := by decide

/-! ## Witnesses: for every statement with hypotheses, states and operands that meet them -/

theorem test_witness_DecodeOfEncode :
    WellFormed .nop = true ∧ WellFormed (.ldBD8 0x00) = true ∧ WellFormed (.callA16 0xFFFF) = true ∧
      WellFormed .set7A = true := by decide

/-- A one-byte, a three-byte and an extended instruction at PC; the last with its bytes across the wrap of PC. -/
theorem test_witness_StepRunsDecodedInstruction :
    (let s := put [(0x0100, 0x3C)] State.reset
     s.fault = none ∧ s.stopped = false ∧ s.halted = false ∧ WellFormed .incA = true ∧
       decode [s.beginStep.read s.beginStep.pc, s.beginStep.read (s.beginStep.pc + 1#16),
         s.beginStep.read (s.beginStep.pc + 2#16)] = .ok (.incA, 1)) ∧
    (let s := put [(0xFFFF, 0x18), (0x0000, 0xFE)] { State.reset with pc := 0xFFFF }
     s.fault = none ∧ s.stopped = false ∧ s.halted = false ∧ WellFormed (.jrE8 0xFE) = true ∧
       decode [s.beginStep.read s.beginStep.pc, s.beginStep.read (s.beginStep.pc + 1#16),
         s.beginStep.read (s.beginStep.pc + 2#16)] = .ok (.jrE8 0xFE, 2)) :=
  ⟨⟨rfl, rfl, rfl, rfl, rfl⟩, ⟨rfl, rfl, rfl, rfl, rfl⟩⟩

/-- One halted state that stays halted, one that leaves. -/
theorem test_witness_HaltedTick :
    (let s := { checkState true 0x00 0x04 with halted := true }
     s.fault = none ∧ s.stopped = false ∧ s.halted = true ∧ s.ime = true ∧ s.bus.bank * 0x4000 < s.bus.romSize ∧
       look s (fun t => (t.halted, t.dispatchCycles)) = some (true, some 0)) ∧
    (let s := { checkState true 0x04 0x04 with halted := true }
     s.fault = none ∧ s.stopped = false ∧ s.halted = true ∧
       look s (fun t => (t.halted, t.dispatchCycles)) = some (false, some 20)) := by decide

theorem test_witness_StepsExactlyWhenNotStuck :
    (let s := { State.reset with fault := some ⟨.unimplementedOpcode, 0x0100, 0xD3⟩ }
     s.fault = some ⟨.unimplementedOpcode, 0x0100, 0xD3⟩ ∧ look s (·.pc) = none) ∧
    (let s := { State.reset with stopped := true }
     s.fault = none ∧ s.stopped = true ∧ look s (·.pc) = none) ∧
    (State.reset.fault = none ∧ State.reset.stopped = false ∧ look State.reset (·.pc) = some 0x0101#16) := by decide

/-- The first and the last unassigned byte. -/
theorem test_witness_UnassignedByteStopsTheCore :
    (let s := put [(0x0100, 0xD3)] State.reset
     s.fault = none ∧ s.stopped = false ∧ s.halted = false ∧ s.beginStep.read s.pc = 0xD3#8) ∧
    (let s := put [(0xFFFF, 0xFD)] { State.reset with pc := 0xFFFF }
     s.fault = none ∧ s.stopped = false ∧ s.halted = false ∧ s.beginStep.read s.pc = 0xFD#8) := by decide

/-- The stack at its reset place, and at the lowest and a middle address of plain storage. -/
theorem test_witness_PushPopRoundTrip :
    State.reset.bus.mem.wf ∧
    [0xFFFE#16, 0x8002#16, 0xE000#16, 0xFF00#16].all
      (fun sp => decide (plainStorage (sp - 1#16) ∧ plainStorage (sp - 2#16))) = true := by decide

theorem test_witness_DecimalAdjust :
    State.reset.fN = false ∧ { State.reset with fN := true }.fN = true := by decide

/-- The ends of the decimal range. -/
theorem test_witness_DecimalArithmetic :
    (0 < 100 ∧ { State.reset with a := 0x00 }.a = bcdByte 0) ∧
      (99 < 100 ∧ { State.reset with a := 0x99 }.a = bcdByte 99) := by decide

theorem test_witness_Halt : { State.reset with ime := true }.ime = true ∧ State.reset.ime = false := by decide

/-- Each form of the list completes, H and L among the destinations; a register outside the destination; each clause
has its forms. -/
theorem test_witness_RegisterFormsFrame :
    [Instr.ldReg .h .l, .ldRegImm .h 0x00, .ldRegAtHL .h, .incReg .h, .decReg .h, .shiftReg .rlc .h, .resReg 0 .h,
      .setReg 7 .h].all (completes · State.reset) = true ∧ Reg8.l ≠ .h ∧
    Instr.ldReg .h .l ∈ [Instr.ldReg .h .l, .ldRegImm .h 0x00, .ldRegAtHL .h, .resReg 0 .h, .setReg 7 .h] ∧
    Instr.decReg .h ∈ [Instr.incReg .h, .decReg .h] := by decide

theorem test_witness_AccumulatorFormsFrame :
    [Instr.aluReg .cp .a, .aluAtHL .adc, .aluImm .sbc 0xFF, .rlca, .rrca, .rla, .rra, .daa, .cpl, .ldAAtBC, .ldAAtDE,
      .ldAAtA16 0x8000, .ldhAAtA8 0xFF, .ldAAtC, .bitReg 7 .a, .bitAtHL 0, .scf, .ccf, .nop, .di, .ei].all
        (completes · State.reset) = true ∧ Reg8.b ≠ .a ∧ Instr.scf ≠ .di ∧ Instr.scf ≠ .ei ∧
    Instr.bitAtHL 0 ∈ [Instr.aluReg .cp .a, .aluAtHL .cp, .aluImm .cp 0xFF, .bitReg 7 .a, .bitAtHL 0, .scf, .ccf, .nop,
      .di, .ei] ∧
    Instr.ldAAtC ∈ [Instr.ldAAtBC, .ldAAtDE, .ldAAtA16 0x8000, .ldhAAtA8 0xFF, .ldAAtC, .nop, .di, .ei] ∧
    Instr.cpl ∈ [Instr.bitReg 7 .a, .bitAtHL 0, .cpl] ∧ Instr.cpl ∈ [Instr.scf, .ccf, .cpl] := by decide

theorem test_witness_PairFormsFrame :
    [Instr.ldPairImm .sp 0xFFFF, .incPair .sp, .decPair .bc, .addHLPair .hl, .ldSPHL, .addSPE8 0x80, .ldHLSPE8 0x7F].all
      (completes · State.reset) = true ∧ Pair.bc ≠ .sp ∧
    (Instr.incPair .sp, Pair.sp) ∈ [(Instr.ldPairImm .sp 0xFFFF, Pair.sp), (.incPair .sp, .sp)] := by decide

/-- Each form completes; a byte next to the one stored to is one the store may not change. -/
theorem test_witness_StoringFormsFrame :
    [Instr.ldAtHLReg .h, .ldAtHLD8 0x00, .ldAtBCA, .ldAtDEA, .ldAtA16A 0xC000, .ldhAtA8A 0xFF, .ldAtCA, .ldAtHLIncA,
      .ldAtHLDecA, .ldAAtHLInc, .ldAAtHLDec, .ldAtA16SP 0xFFFF, .incAtHL, .decAtHL, .shiftAtHL .swap, .resAtHL 7,
      .setAtHL 0].all (completes · State.reset) = true ∧
    byteStores State.reset (.ldAtA16SP 0xDFFF) = [(0xDFFF#16, 0xFE#8), (0xE000#16, 0xFF#8)] ∧
    ¬ State.reset.bus.writeMayChange 0xDFFF#16 0xFE#8 0xDFFE#16 ∧
    ¬ State.reset.bus.writeMayChange 0xE000#16 0xFF#8 0xC001#16 ∧
    State.reset.bus.writeMayChange 0xE000#16 0xFF#8 0xC000#16 := by
  refine ⟨by decide, by decide, ?_, ?_, ?_⟩ <;> unfold Bus.writeMayChange <;> decide

theorem test_witness_StackAndControlFrame :
    [Instr.jpA16 0xFFFF, .jpCond .nz 0x0000, .jpAtHL, .jrE8 0x80, .jrCond .c 0x7F, .callA16 0x8000, .callCond .z 0x8000,
      .ret, .retCond .nc, .reti, .rst 7, .push .af, .pop .af].all (completes · State.reset) = true ∧
    Instr.push .af ≠ .pop .bc ∧ Instr.ret ≠ .reti ∧ byteStores State.reset (.rst 7) ≠ [] ∧
    ¬ State.reset.bus.writeMayChange 0xFFFD#16 0x01#8 0xFFFE#16 := by
  refine ⟨by decide, by decide, by decide, by decide, ?_⟩
  unfold Bus.writeMayChange; decide

theorem test_witness_BusChangesOnlyByListedWrites :
    WellFormed .pushAF = true ∧ completes .pushAF State.reset = true ∧ WellFormed .nop = true ∧
      completes .nop State.reset = true := by decide

theorem test_witness_RunStateWriters :
    [Instr.di, .ei, .reti, .halt, .stop, .prefixCB, .illegalD3].all (completes · State.reset) = true ∧
      faultKindOf State.reset .stop = none ∧ faultKindOf State.reset .halt ≠ none ∧
      { State.reset with fault := some ⟨.unimplementedOpcode, 0x0100, 0xD3⟩ }.fault ≠ none := by decide

/-- The ends of every range of the map, with a bank the image has. -/
theorem test_witness_ReadMap :
    mbc1Bus.cartType = .mbc1 ∧ mbc1Bus.romBank.toNat * 0x4000 < mbc1Bus.romSize ∧
    Bus.reset.cartType = .none ∧ 0x4000 < Bus.reset.romSize ∧
    (0x3FFF#16).toNat ≤ 0x3FFF ∧ 0x4000 ≤ (0x4000#16).toNat ∧ (0x7FFF#16).toNat ≤ 0x7FFF ∧
    0x8000 ≤ (0x8000#16).toNat ∧ (0xDFFF#16).toNat < 0xE000 ∧ 0xE000 ≤ (0xE000#16).toNat ∧
    (0xFDFF#16).toNat ≤ 0xFDFF ∧ 0xFDFF < (0xFE00#16).toNat := by decide

/-- The ends of the four command windows. -/
theorem test_witness_BankCommands :
    Bus.reset.cartType = .none ∧ mbc1Bus.cartType = .mbc1 ∧
    ((0x1FFF#16).toNat < 0x2000 ∧ 0x2000 ≤ (0x2000#16).toNat ∧ (0x3FFF#16).toNat < 0x4000 ∧
      0x4000 ≤ (0x4000#16).toNat ∧ (0x5FFF#16).toNat < 0x6000 ∧ 0x6000 ≤ (0x6000#16).toNat ∧
      (0x7FFF#16).toNat < 0x8000) ∧
    (mbc1Bus.write 0x2000 0x1F).romBank = 31#5 ∧ (mbc1Bus.write 0x3FFF 0xE0).romBank = 1#5 ∧
    (mbc1Bus.write 0x7FFF 0x01).mbc1Mode = true := by decide

theorem test_witness_EchoMirror :
    mbc1Bus.mem.wf ∧ 0xC000 ≤ (0xC000#16).toNat ∧ (0xDDFF#16).toNat ≤ 0xDDFF ∧
      (0xDDFF#16 + 0x2000#16 : Word) = 0xFDFF#16 := by decide

/-- The ends of the plain ranges, and the slots of a palette byte. -/
theorem test_witness_RegisterAndPlainWrites :
    Bus.reset.mem.wf ∧
    [0xA000#16, 0xBFFF#16, 0xDE00#16, 0xDFFF#16, 0xFE00#16, 0xFEFF#16].all
      (fun a : Word => decide ((0xA000 ≤ a.toNat ∧ a.toNat ≤ 0xBFFF) ∨ (0xDE00 ≤ a.toNat ∧ a.toNat ≤ 0xDFFF) ∨
        (0xFE00 ≤ a.toNat ∧ a.toNat ≤ 0xFEFF))) = true ∧
    (⟨0, 1, 2, 3⟩ : PaletteSlots) = ⟨(0xE4#8).extractLsb' 0 2, (0xE4#8).extractLsb' 2 2, (0xE4#8).extractLsb' 4 2,
      (0xE4#8).extractLsb' 6 2⟩ := by decide

theorem test_witness_JoypadAndDisplayWrites :
    Bus.reset.mem.wf ∧ (0x8000 ≤ (0x8000#16).toNat ∧ (0x9FFF#16).toNat ≤ 0x9FFF) ∧
    [0xFF01#16, 0xFF43#16, 0xFF45#16, 0xFF4A#16, 0xFF80#16, 0xFFFE#16].all
      (fun a : Word => decide (0xFF00 ≤ a.toNat ∧ plainStorage a)) = true := by decide

/-- The first and last byte of the copy, the byte that is the trigger itself, and the bytes just outside OAM. -/
theorem test_witness_OamCopy :
    Bus.reset.mem.wf ∧ (0 < 160 ∧ 159 < 160) ∧ (0xFF#8).toNat * 256 + 0x46 = 0xFF46 ∧
    ((0xFDFF#16).toNat ≠ 0xFF46 ∧ (0xFDFF#16).toNat < 0xFE00) ∧
    ((0xFEA0#16).toNat ≠ 0xFF46 ∧ 0xFE9F < (0xFEA0#16).toNat) := by decide

theorem test_witness_CartridgeNeverChanges : look State.reset (·.pc) = some 0x0101#16 := by decide

/-- The first and the last interrupt, the last with no lower one requested. -/
theorem test_witness_InterruptDispatch :
    (let s := checkState true 0x1F 0x1F
     s.ime = true ∧ (s.bus.mem.read 0xFFFF).getLsbD 0 = true ∧ (s.bus.mem.read 0xFF0F).getLsbD 0 = true) ∧
    (let s := checkState true 0x10 0x1F
     s.ime = true ∧ ((s.bus.mem.read 0xFFFF).getLsbD 4 = true ∧ (s.bus.mem.read 0xFF0F).getLsbD 4 = true) ∧
       [0, 1, 2, 3].all (fun j => !((s.bus.mem.read 0xFFFF).getLsbD j && (s.bus.mem.read 0xFF0F).getLsbD j)) = true) := by
  decide

/-- No enabled request; one with IME = 0 (the highest-numbered). -/
theorem test_witness_HaltExit :
    (let s := checkState true 0x0F 0x10
     [0, 1, 2, 3, 4].all (fun j => !((s.bus.mem.read 0xFFFF).getLsbD j && (s.bus.mem.read 0xFF0F).getLsbD j)) = true) ∧
    (let s := checkState false 0x10 0x10
     s.ime = false ∧ 4 < 5 ∧ (s.bus.mem.read 0xFFFF).getLsbD 4 = true ∧ (s.bus.mem.read 0xFF0F).getLsbD 4 = true) := by
  decide

/-- A check that dispatches, one that only ends a halt, one with no request. -/
theorem test_witness_OneDispatchPerBoundary :
    (checkState true 0x01 0x01).interruptCheck.dispatchCycles = some 20 ∧
    (checkState false 0x01 0x01).interruptCheck.dispatchCycles = some 0 ∧
    (checkState true 0x00 0x01).interruptCheck.dispatchCycles = some 0 := by decide

/-- A move that sets IF bits and replaces the first byte it can reach; the addresses just outside its reach. -/
theorem test_witness_EnvironmentReach :
    let s := { checkState true 0x01 0x00 with env := [⟨0x10#5, [(0x00#7, 0x55#8)]⟩] }
    s.bus.mem.wf ∧ s.environmentTurn.read 0xFF0F = 0x11#8 ∧ s.environmentTurn.read 0xFF00 = 0x55#8 ∧
    (s.read 0xFF0F).getLsbD 0 = true ∧ (0xFEFF#16).toNat < 0xFF00 ∧ 0xFF7F < (0xFF80#16).toNat := by decide

/-- A given move, a cycle that starts over after its last move, and neither. -/
theorem test_witness_EnvironmentNeverRunsOut :
    (let s := { State.reset with env := [EnvMove.idle] }
     s.env = EnvMove.idle :: [] ∧ s.environmentTurn.env = []) ∧
    (let s := { State.reset with envCycle := [⟨0x01#5, []⟩, EnvMove.idle] }
     s.env = [] ∧ s.envCycle = ⟨0x01#5, []⟩ :: [EnvMove.idle] ∧
       s.environmentTurn.environmentTurn.env = [] ∧ s.environmentTurn.environmentTurn.envCycle = s.envCycle) ∧
    (let s := { State.reset with envCycle := [] }
     s.env = [] ∧ s.envCycle = []) ∧
    look State.reset (·.envCycle) = some [EnvMove.idle] := by decide

/-- A size too small, a size that is no multiple, the smallest size with each kind of type byte, and the ends of the
address clauses. -/
theorem test_witness_CartridgeLoad :
    ¬ (⟨0x4000, []⟩ : Cartridge).sizeOk ∧ ¬ (⟨0x8001, []⟩ : Cartridge).sizeOk ∧ (⟨0x8000, []⟩ : Cartridge).sizeOk ∧
    (⟨0x8000, []⟩ : Cartridge).typeByte = 0x00#8 ∧ (⟨0x8000, [(0x0147, 0x01)]⟩ : Cartridge).typeByte = 0x01#8 ∧
    (⟨0x8000, [(0x0147, 0x02)]⟩ : Cartridge).typeByte ≠ 0x00#8 ∧
    (⟨0x8000, [(0x0147, 0x02)]⟩ : Cartridge).typeByte ≠ 0x01#8 ∧
    (0x7FFF#16).toNat < 0x8000 ∧ 0x8000 ≤ (0x8000#16).toNat ∧ (0x8000#16).toNat ≠ 0xFFFF ∧
    (0x8000#16).toNat ≠ 0xFF0F := by decide

theorem test_witness_InitialStatesMeetInvariant :
    (State.load ⟨0x8000, [(0x0147, 0x02)]⟩ [] [] []).isSome = true := by decide

/-- A state with bytes, marks and a halted core meets the invariant, and has a step. -/
theorem test_witness_StepKeepsInvariant :
    let s : State := { checkState true 0x01 0x1F with halted := true }
    s.Ok ∧ look s (·.pc) = some 0x0040#16 := by
  refine ⟨⟨⟨⟨by decide, by decide, by decide, by decide⟩, ⟨by decide, by decide⟩, ⟨by decide, by decide, by decide⟩,
    ⟨by decide, by decide⟩, ⟨by decide, by decide⟩⟩, ⟨by decide, by decide, by decide⟩⟩, by decide⟩

/-- Both ways the two moves of a step are given: two listed ones, and a cycle. -/
theorem test_witness_OutputsAreNeverRead :
    (let s : State := { State.reset with env := [EnvMove.idle, EnvMove.idle], envCycle := [] }
     2 ≤ s.env.length ∧ (look s (·.pc)).isSome = true) ∧
    State.reset.envCycle ≠ [] ∧ (look State.reset (·.pc)).isSome = true := by decide

/-- A state whose PC is at the last byte of ROM, so that the placed bytes cross into VRAM. -/
theorem test_witness_PlacedBytesAreFetched :
    let s : State := { State.reset with pc := 0x7FFF }
    s.Ok ∧ (s.withBytesAtPc 0xC3 0x34 0x12).beginStep.fetchInstr = .jpA16 0x1234 := by
  refine ⟨⟨⟨⟨by decide, by decide, by decide, by decide⟩, ⟨by decide, by decide⟩, ⟨by decide, by decide, by decide⟩,
    ⟨by decide, by decide⟩, ⟨by decide, by decide⟩⟩, ⟨by decide, by decide, by decide⟩⟩, by decide⟩

end Sys2Proof.Tests
end

section
/-! PROOFS. Family 20_memory.md: the read map, the echo mirror, the register and plain writes. Before them the facts they
share: which addresses have one storage byte, and what a write is read back as. -/

namespace Sys2Proof.Machine

/-! ## Addresses of one storage byte -/

/-- An echo address's storage byte is the one 0x2000 below it (R63, R85). -/
theorem storageKey_echo {a : Word} (h : 0xE000 ≤ a.toNat) (h' : a.toNat ≤ 0xFDFF) : storageKey a = a.toNat - 0x2000 :=
  if_pos ⟨h, h'⟩

theorem toNat_add_2000 {a : Word} (h : a.toNat ≤ 0xDDFF) : (a + 0x2000#16).toNat = a.toNat + 0x2000 := by
  rw [BitVec.toNat_add, BitVec.toNat_ofNat]; omega

/-- The two addresses of a mirrored pair have one storage byte. -/
theorem storageKey_add_2000 {a : Word} (h : 0xC000 ≤ a.toNat) (h' : a.toNat ≤ 0xDDFF) :
    storageKey (a + 0x2000#16) = storageKey a := by
  have hsum := toNat_add_2000 h'
  rw [storageKey_echo (by omega) (by omega), storageKey_eq_self (by omega)]; omega

/-- Only the two addresses of a mirrored pair have its storage byte. -/
theorem eq_or_eq_add_2000_of_storageKey_eq {a x : Word} (h : 0xC000 ≤ a.toNat) (h' : a.toNat ≤ 0xDDFF)
    (hk : storageKey x = storageKey a) : x = a ∨ x = a + 0x2000#16 := by
  have hsum := toNat_add_2000 h'
  rw [storageKey_eq_self (a := a) (by omega)] at hk
  by_cases hx : 0xE000 ≤ x.toNat ∧ x.toNat ≤ 0xFDFF
  · rw [storageKey_echo hx.1 hx.2] at hk
    exact .inr (BitVec.eq_of_toNat_eq (by omega))
  · rw [storageKey_eq_self hx] at hk
    exact .inl (BitVec.eq_of_toNat_eq hk)

/-- Addresses at or above 0x8000 outside both halves of the mirror (R41, R85): each has a storage byte of its own. -/
abbrev unmirrored (a : Word) : Prop :=
  0x8000 ≤ a.toNat ∧ (a.toNat < 0xC000 ∨ (0xDE00 ≤ a.toNat ∧ a.toNat < 0xE000) ∨ 0xFE00 ≤ a.toNat)

theorem eq_of_storageKey_eq {a x : Word} (h : unmirrored a) (hk : storageKey x = storageKey a) : x = a := by
  obtain ⟨-, hr⟩ := h
  rw [storageKey_eq_self (a := a) (by omega)] at hk
  by_cases hx : 0xE000 ≤ x.toNat ∧ x.toNat ≤ 0xFDFF
  · rw [storageKey_echo hx.1 hx.2] at hk; omega
  · rw [storageKey_eq_self hx] at hk
    exact BitVec.eq_of_toNat_eq hk

/-! ## Reads after a write -/

/-- What a write at or above 0x8000 is read back as, P1 left out: 0 at DIV and LY, the low five bits at IF and IE, else
the byte written (R75 to R86). Neither LY's clearing (R77) nor the OAM copy (R79) reaches the address written. -/
theorem Bus.read_write_self (b : Bus) (a : Word) (v : Byte) (hb : b.mem.wf) (ha : 0x8000 ≤ a.toNat)
    (hp : a.toNat ≠ addrP1) :
    (b.write a v).read a =
      if a.toNat = addrDIV ∨ a.toNat = addrLY then 0x00#8
      else if a.toNat = addrIF ∨ a.toNat = addrIE then v &&& 0x1F#8 else v := by
  rw [Bus.read_high _ ha]
  rcases b.write_mem_cases a v ha with ⟨e, -⟩ | ⟨-, -, w, e, ew⟩ | ⟨hl, -, e⟩ | ⟨hd, n, hn, e⟩
  · exact absurd e hp
  · rw [e, Memory.read_write_self hb, ew]
  · have hk : storageKey a = addrLCDC := by rw [storageKey_eq_self (by rw [hl]; decide), hl]
    rw [e, hl, hk, Memory.read_write_of_ne _ _ (by decide), Memory.read_write_self hb]; rfl
  · have hk : storageKey a = addrDMA := by rw [storageKey_eq_self (by rw [hd]; decide), hd]
    rw [e, hd, hk, read_dmaMem_of_outside _ _ _ _ (by subst hn; decide), Bus.store_mem, hk, Memory.read_write_self hb]
    rfl

/-- Plain storage is read back as the byte written. -/
theorem Bus.read_write_plain_self (b : Bus) (a : Word) (v : Byte) (hb : b.mem.wf) (h : plainStorage a) :
    (b.write a v).read a = v :=
  b.read_write_plain a v a hb h h.1 rfl

/-- A write to an address with a storage byte of its own changes no other read, unless it is to LCDC (R77) or DMA
(R79). -/
theorem Bus.read_write_of_ne (b : Bus) (a : Word) (v : Byte) {x : Word} (ha : unmirrored a) (hl : a.toNat ≠ addrLCDC)
    (hd : a.toNat ≠ addrDMA) (hx : x ≠ a) : (b.write a v).read x = b.read x := by
  refine b.read_write_of_not_mayChange a v x ?_
  have hrom : ¬ a.toNat ≤ 0x7FFF := Nat.not_le.2 ha.1
  rw [Bus.writeMayChange, if_neg hrom]
  rintro (⟨-, -, hk⟩ | ⟨e, -⟩ | ⟨e, -⟩)
  · exact hx (eq_of_storageKey_eq ha hk)
  · exact hl e
  · exact hd e

/-- External RAM, work RAM, its echo and OAM take the byte with no side effect (R85, R86). -/
theorem Bus.write_eq_store (b : Bus) {a : Word} (v : Byte) (h : 0xA000 ≤ a.toNat) (h' : a.toNat < 0xFF00) :
    b.write a v = b.store a v := by
  simp only [Bus.write]
  rw [if_neg (by omega), if_neg (by omega), if_neg (by omega)]

/-- The five bits that IF and IE keep, as a remainder. -/
theorem and_1F_eq_mod (v : Byte) : v &&& 0x1F#8 = BitVec.ofNat 8 (v.toNat % 32) := by
  apply BitVec.eq_of_toNat_eq
  have hmask : v.toNat &&& 0x1F = v.toNat % 32 := Nat.and_two_pow_sub_one_eq_mod v.toNat 5
  rw [BitVec.toNat_and, BitVec.toNat_ofNat, BitVec.toNat_ofNat, hmask]; omega

/-! ## Palettes (R80) -/

theorem Bus.write_bgp (b : Bus) (v : Byte) : (b.write 0xFF47#16 v).bgp = PaletteSlots.ofByte v := rfl

theorem Bus.write_obp0 (b : Bus) (v : Byte) : (b.write 0xFF48#16 v).obp0 = PaletteSlots.ofByte v := rfl

theorem Bus.write_obp1 (b : Bus) (v : Byte) : (b.write 0xFF49#16 v).obp1 = PaletteSlots.ofByte v := rfl

/-! ## The bank shown, by cartridge type (R64) -/

theorem Bus.bankOffset_eq (b : Bus) (a : Word) : b.bankOffset a = b.bank * 0x4000 + (a.toNat - 0x4000) := rfl

theorem Bus.bank_of_mbc1 {b : Bus} (h : b.cartType = .mbc1) : b.bank = b.romBank.toNat := by
  simp only [Bus.bank, h]

theorem Bus.bank_of_none {b : Bus} (h : b.cartType = .none) : b.bank = 1 := by
  simp only [Bus.bank, h]

/-! ## Plain storage by range -/

theorem plainStorage_of_lt_io {a : Word} (h : 0x8000 ≤ a.toNat) (h' : a.toNat < 0xFF00) : plainStorage a := by
  refine ⟨h, fun hmem => ?_⟩
  simp only [addrP1, addrDIV, addrIF, addrLCDC, addrSTAT, addrLY, addrDMA, addrBGP, addrOBP0, addrOBP1, addrIE,
    List.mem_cons, List.not_mem_nil, or_false] at hmem
  omega

end Sys2Proof.Machine

open Sys2Proof Sys2Proof.Machine

/-- Settles O44, range by range. -/
theorem readMap : Obligations.ReadMap := by
  unfold Obligations.ReadMap
  intro b a
  refine ⟨b.read_rom0, fun h h' hc hsize => ?mbc1, fun h h' hc hsize => ?none, fun h h' => ?echo, fun h hr => ?other⟩
  case mbc1 =>
    have hbank := Bus.bank_of_mbc1 hc
    rw [b.read_bank h h' (by rw [hbank]; exact hsize), Bus.bankOffset_eq, hbank]
  case none =>
    have hbank := Bus.bank_of_none hc
    have hoff : 1 * 0x4000 + (a.toNat - 0x4000) = a.toNat := by omega
    rw [b.read_bank h h' (by omega), Bus.bankOffset_eq, hbank, hoff]
  case echo => rw [b.read_high (by omega), storageKey_echo h h']
  case other => rw [b.read_high h, storageKey_eq_self (by omega)]

/-- Settles O46: both addresses of the pair have one storage byte, and no third address has it. -/
theorem echoMirror : Obligations.EchoMirror := by
  unfold Obligations.EchoMirror
  intro b a v hb h h'
  have hsum := toNat_add_2000 h'
  have hkey := storageKey_add_2000 h h'
  have hplain : plainStorage a := plainStorage_of_lt_io (by omega) (by omega)
  have hsame : b.write (a + 0x2000#16) v = b.write a v := by
    rw [b.write_eq_store v (by omega) (by omega), b.write_eq_store v (by omega) (by omega), Bus.store, hkey, Bus.store]
  have hlow : (b.write a v).read a = v := b.read_write_plain_self a v hb hplain
  have hhigh : (b.write a v).read (a + 0x2000#16) = v := b.read_write_plain a v _ hb hplain (by omega) hkey
  refine ⟨hlow, hhigh, hsame.symm ▸ hlow, hsame.symm ▸ hhigh, hsame, fun x hx hx' => ?_⟩
  rw [b.write_eq_store v (by omega) (by omega)]
  refine b.read_congr_mem _ x fun _ => Memory.read_write_of_ne _ _ fun hk => ?_
  exact (eq_or_eq_add_2000_of_storageKey_eq h h' hk).elim hx hx'

/-- Settles O47: each read of a written address is `Bus.read_write_self`; each written address is unmirrored and is
neither LCDC nor DMA, so no other read changes. -/
theorem registerAndPlainWrites : Obligations.RegisterAndPlainWrites := by
  unfold Obligations.RegisterAndPlainWrites
  intro b v hb
  have hio (a : Word) := b.read_write_self a v hb
  refine ⟨hio 0xFF04#16 (by decide) (by decide), hio 0xFF44#16 (by decide) (by decide),
    (hio 0xFF0F#16 (by decide) (by decide)).trans (and_1F_eq_mod v),
    (hio 0xFFFF#16 (by decide) (by decide)).trans (and_1F_eq_mod v), ?palettes, ?plain, ?frame⟩
  case palettes =>
    rintro slots rfl
    exact ⟨hio 0xFF47#16 (by decide) (by decide), b.write_bgp v, hio 0xFF48#16 (by decide) (by decide), b.write_obp0 v,
      hio 0xFF49#16 (by decide) (by decide), b.write_obp1 v⟩
  case plain =>
    intro a ha
    exact b.read_write_plain_self a v hb (plainStorage_of_lt_io (by omega) (by omega))
  case frame =>
    intro a x ha hx
    have hown : unmirrored a ∧ a.toNat ≠ addrLCDC ∧ a.toNat ≠ addrDMA := by
      rcases ha with hreg | hrange
      · simp only [List.mem_cons, List.not_mem_nil, or_false] at hreg
        rcases hreg with rfl | rfl | rfl | rfl | rfl | rfl | rfl <;> decide
      · simp only [unmirrored, addrLCDC, addrDMA]; omega
    exact b.read_write_of_ne a v hown.1 hown.2.1 hown.2.2 hx
end

section
/-! PROOFS. Family 30_encoding.md: the prefix. Before it the facts it turns on: after 0xCB the second byte alone selects an
extended instruction, never the prefix again, and every extended instruction reports its cycles. -/

namespace Sys2Proof.Machine

/-- After 0xCB the second byte alone selects the instruction (R110, R121). -/
theorem decodeBytes_prefix (b1 b2 : Byte) : decodeBytes 0xCB#8 b1 b2 = decodeExtended b1 := if_pos rfl

theorem decodeExtended_ne_prefixCB (op2 : Byte) : decodeExtended op2 ≠ .prefixCB :=
  fun h => formOf_decodeExtended_ne op2 (congrArg formOf h)

/-- The prefix executes the instruction its byte decodes to, with PC past that byte (R121). -/
theorem exec_prefixCB (s : State) :
    exec .prefixCB s = exec (decodeExtended (s.read s.pc)) (s.setPc (s.pc + 1#16)).freshReads :=
  calc exec .prefixCB s
    _ = .next (prefixCB s) := exec_eq_form .prefixCB s
    _ = .next ((formOf (decodeExtended (s.read s.pc))).run (s.setPc (s.pc + 1#16)).freshReads) := by
      rw [prefixCB_eq_form]
    _ = exec (decodeExtended (s.read s.pc)) (s.setPc (s.pc + 1#16)).freshReads := (exec_eq_form _ _).symm

/-- Every extended instruction ends with its cycle count, operand in a register or at HL. -/
theorem runExtended_cycles_isSome (op2 : Byte) (s : State) : (runExtended op2 s).cycles.isSome = true := by
  unfold runExtended
  generalize fieldX op2 = x
  generalize loc8 (fieldZ op2) = z
  fin_cases x <;> cases z <;> rfl

end Sys2Proof.Machine

open Sys2Proof Sys2Proof.Machine

/-- Settles O36, through the extended page's instruction and the forms it shares with `exec`. -/
theorem prefixRunsExtendedInstruction : Obligations.PrefixRunsExtendedInstruction := by
  unfold Obligations.PrefixRunsExtendedInstruction
  intro s
  have hdecode : decodeBytes 0xCB#8 (s.bus.read s.pc) 0#8 = decodeExtended (s.read s.pc) := decodeBytes_prefix _ _
  rw [hdecode]
  refine ⟨decodeExtended_ne_prefixCB _, by decide, exec_prefixCB s, prefixCB s, exec_eq_form .prefixCB s, ?cycles⟩
  case cycles => exact runExtended_cycles_isSome _ _
end

section
/-! PROOFS. Family 40_loads.md: the 8-bit and 16-bit loads. Before them what each shared load and store answers, as one
update of the state, for every instruction of that form. -/

namespace Sys2Proof.Machine

/-- An instruction does what its form does. -/
theorem exec_of_formOf {i : Instr} {f : Form} (h : formOf i = f) (s : State) : exec i s = .next (f.run s) := by
  rw [exec_eq_form, h]

/-! ## Loads and stores of A -/

/-- The I/O page address as a number (R120). -/
theorem ioAddress_eq_ofNat (n : Byte) : ioAddress n = BitVec.ofNat 16 (0xFF00 + n.toNat) := by
  apply BitVec.eq_of_toNat_eq
  rw [ioAddress, BitVec.toNat_add, BitVec.toNat_setWidth, BitVec.toNat_ofNat, BitVec.toNat_ofNat]
  omega

theorem exec_of_loadA {i : Instr} {x : AAddr} (h : formOf i = .loadA x) (s : State) :
    exec i s = .next { s with a := s.bus.read (x.addr s), cycles := some x.cost } := exec_of_formOf h s

theorem exec_of_storeA {i : Instr} {x : AAddr} (h : formOf i = .storeA x) (s : State) :
    exec i s = .next { s with bus := s.bus.write (x.addr s) s.a, cycles := some x.cost } := exec_of_formOf h s

/-- Whatever HL moves by, the load reads at the old HL. -/
theorem exec_of_loadAMove {i : Instr} {d : Word} (h : formOf i = .loadAMove d) (s : State) :
    exec i s = .next { s with a := s.bus.read s.hl, hl := s.hl + d, cycles := some 8 } := exec_of_formOf h s

/-- Whatever HL moves by, the store writes at the old HL. -/
theorem exec_of_storeAMove {i : Instr} {d : Word} (h : formOf i = .storeAMove d) (s : State) :
    exec i s = .next { s with bus := s.bus.write s.hl s.a, hl := s.hl + d, cycles := some 8 } := exec_of_formOf h s

/-! ## The one-row forms -/

theorem exec_ldAtHLD8 (n : Byte) (s : State) : exec (.ldAtHLD8 n) s = .next (storeImmAtHL n s) := exec_of_formOf rfl s

theorem exec_ldAtA16SP (w : Word) (s : State) : exec (.ldAtA16SP w) s = .next (storeSP w s) := exec_of_formOf rfl s

theorem exec_ldSPHL (s : State) : exec .ldSPHL s = .next (loadSPHL s) := exec_of_formOf rfl s

end Sys2Proof.Machine

open Sys2Proof Sys2Proof.Machine

/-- Settles O10: one lemma for each row group, whatever the registers; a meaning is a register write, then the count. -/
theorem loadRegister : Obligations.LoadRegister := by
  unfold Obligations.LoadRegister
  intro s dst src n
  exact ⟨exec_ldReg dst src s, exec_ldRegImm dst n s, exec_ldRegAtHL dst s⟩

/-- Settles O11: a meaning is a bus write at HL, then the count. -/
theorem storeAtHL : Obligations.StoreAtHL := by
  unfold Obligations.StoreAtHL
  intro s src n
  exact ⟨exec_ldAtHLReg src s, exec_ldAtHLD8 n s⟩

/-- Settles O12: one load and one store at five kinds of address; only the I/O page's needs arithmetic. -/
theorem loadAndStoreA : Obligations.LoadAndStoreA := by
  unfold Obligations.LoadAndStoreA
  intro s w n load store
  have hload {i : Instr} (x : AAddr) (h : formOf i = .loadA x) : exec i s = load (x.addr s) x.cost := exec_of_loadA h s
  have hstore {i : Instr} (x : AAddr) (h : formOf i = .storeA x) : exec i s = store (x.addr s) x.cost :=
    exec_of_storeA h s
  rw [← ioAddress_eq_ofNat n, ← ioAddress_eq_ofNat s.c]
  exact ⟨hload .bc rfl, hload .de rfl, hload (.abs w) rfl, hload (.page n) rfl, hload .pageC rfl,
    hstore .bc rfl, hstore .de rfl, hstore (.abs w) rfl, hstore (.page n) rfl, hstore .pageC rfl⟩

/-- Settles O13: the two increments and the two decrements differ in what HL moves by; a decrement adds -1. -/
theorem loadAndMoveHL : Obligations.LoadAndMoveHL := by
  unfold Obligations.LoadAndMoveHL
  intro s
  have hdec : s.hl - 1#16 = s.hl + -1#16 := BitVec.sub_eq_add_neg s.hl 1#16
  rw [hdec]
  exact ⟨exec_of_storeAMove rfl s, exec_of_storeAMove rfl s, exec_of_loadAMove rfl s, exec_of_loadAMove rfl s⟩

/-- Settles O14: one lemma for the four pairs; SP's two bytes go through `State.write16`, low byte first. -/
theorem loadPair : Obligations.LoadPair := by
  unfold Obligations.LoadPair
  intro s w
  have hpair (p : Pair) : exec (.ldPairImm p w) s = .next (loadPairImm p w s) := exec_ldPairImm p w s
  exact ⟨hpair .bc, hpair .de, hpair .hl, hpair .sp, exec_ldAtA16SP w s, exec_ldSPHL s⟩
end

section
/-! PROOFS. Family 41_incdec.md: INC, DEC and ADD HL,rr. Before them `inc8` and `dec8` in the arithmetic of R170 and R171,
and what a flag write does that keeps fC. -/

namespace Sys2Proof.Machine

/-! ## The two 8-bit functions (R170, R171) -/

/-- The test of the low four bits, as a remainder. -/
theorem and_0F_beq (v k : Byte) : (v &&& 0x0F#8 == k) = decide (v.toNat % 16 = k.toNat) := by
  have hmask : (v &&& 0x0F#8).toNat = v.toNat % 16 := Nat.and_two_pow_sub_one_eq_mod v.toNat 4
  rw [beq_eq_decide, decide_eq_decide, ← BitVec.toNat_inj, hmask]

theorem add_one_beq_zero (v : Byte) : (v + 1#8 == 0#8) = decide (v = 0xFF#8) :=
  decide_eq_decide.2 add_eq_zero_iff_eq_neg

theorem sub_one_beq_zero (v : Byte) : (v - 1#8 == 0#8) = decide (v = 0x01#8) := decide_eq_decide.2 sub_eq_zero

theorem sub_one_eq_ofNat (v : Byte) : v - 1#8 = BitVec.ofNat 8 (v.toNat + 255) :=
  calc v - 1#8
    _ = v + 255#8 := BitVec.sub_eq_add_neg v 1#8
    _ = BitVec.ofNat 8 (v.toNat + 255) := BitVec.add_def v 255#8

theorem inc8_eq (v : Byte) (f : Flags) :
    inc8 v f = (BitVec.ofNat 8 (v.toNat + 1),
      { f with z := decide (v = 0xFF#8), n := false, h := decide (v.toNat % 16 = 0x0F) }) := by
  have hsum : v + 1#8 = BitVec.ofNat 8 (v.toNat + 1) := BitVec.add_def v 1#8
  rw [inc8, add_one_beq_zero, and_0F_beq, hsum]; rfl

theorem dec8_eq (v : Byte) (f : Flags) :
    dec8 v f = (BitVec.ofNat 8 (v.toNat + 255),
      { f with z := decide (v = 0x01#8), n := true, h := decide (v.toNat % 16 = 0x00) }) := by
  rw [dec8, sub_one_beq_zero, and_0F_beq, sub_one_eq_ofNat]; rfl

/-! ## Flags that keep fC, and the two forms at HL -/

/-- A flag write whose carry is the state's own changes the other three flags only. -/
theorem State.setFlags_of_c_eq {s : State} {f : Flags} (hc : f.c = s.fC) :
    s.setFlags f = { s with fZ := f.z, fN := f.n, fH := f.h } := by
  rw [State.setFlags, hc]

theorem exec_incAtHL (s : State) : exec .incAtHL s = .next (incMemory s) := exec_of_formOf rfl s

theorem exec_decAtHL (s : State) : exec .decAtHL s = .next (decMemory s) := exec_of_formOf rfl s

/-! ## The 16-bit forms -/

/-- A pair moves by `w` mod 65536, and no flag with it (R176, R177). -/
theorem incPairBy_eq (w : Word) (p : Pair) (s : State) :
    incPairBy w p s =
      { s.setPair p (BitVec.ofNat 16 ((s.getPair p).toNat + w.toNat)) with cycles := some 8 } := by
  rw [← BitVec.add_def]; rfl

end Sys2Proof.Machine

open Sys2Proof Sys2Proof.Machine

/-- Settles O15: `inc8` and `dec8` in arithmetic; a register write leaves the fC that the flag write keeps, and the
memory forms name one byte read for the sum and the flags. -/
theorem incrementDecrement : Obligations.IncrementDecrement := by
  unfold Obligations.IncrementDecrement
  intro s r v m
  have hcarry (x : Byte) : s.fC = (s.setReg8 r x).fC := (s.setReg8_fC r x).symm
  refine ⟨?incReg, ?incAtHL, ?decReg, ?decAtHL⟩
  case incReg => rw [exec_incReg, incRegister, inc8_eq, State.setFlags_of_c_eq (hcarry _)]; rfl
  case incAtHL => rw [exec_incAtHL, incMemory, inc8_eq]; rfl
  case decReg => rw [exec_decReg, decRegister, dec8_eq, State.setFlags_of_c_eq (hcarry _)]; rfl
  case decAtHL => rw [exec_decAtHL, decMemory, dec8_eq]; rfl

/-- Settles O16: INC and DEC move the pair by 1 and by 65535; `add16` already speaks of exact sums, and HL is read before
it is written. -/
theorem pairArithmetic : Obligations.PairArithmetic := by
  unfold Obligations.PairArithmetic
  intro s p x v
  refine ⟨?inc, ?dec, exec_addHLPair p s⟩
  case inc => rw [exec_incPair, incPairBy_eq]; rfl
  case dec => rw [exec_decPair, incPairBy_eq]; rfl
end

section
/-! PROOFS. Family 42_alu_a.md: arithmetic and logic on A. Before them `add8` and `sub8` as exact sums (R180, R181), and
one rule for the three operand forms: what an operation makes of any second operand. -/

namespace Sys2Proof.Machine

/-! ## Addition and subtraction of bytes (R180, R181) -/

theorem ofNat_beq_zero (n : Nat) : (BitVec.ofNat 8 n == 0#8) = decide (n % 256 = 0) := by
  rw [beq_eq_decide, decide_eq_decide, ← BitVec.toNat_inj, BitVec.toNat_ofNat, BitVec.toNat_ofNat]

theorem add8_eq (a v : Byte) (cin : Bool) :
    add8 a v cin = (BitVec.ofNat 8 (a.toNat + v.toNat + cin.toNat),
      { z := decide ((a.toNat + v.toNat + cin.toNat) % 256 = 0), n := false
        h := decide (a.toNat % 16 + v.toNat % 16 + cin.toNat > 0x0F)
        c := decide (a.toNat + v.toNat + cin.toNat > 0xFF) }) := by
  rw [add8, ofNat_beq_zero]

/-- 512 is 0 mod 256 and more than an operand and a carry together, so the natural subtraction never cuts off at 0. -/
theorem sub_sub_eq_ofNat (a v : Byte) (cin : Bool) :
    a - v - BitVec.ofNat 8 cin.toNat = BitVec.ofNat 8 (a.toNat + 512 - v.toNat - cin.toNat) := by
  apply BitVec.eq_of_toNat_eq
  have hcin := cin.toNat_le
  simp only [BitVec.toNat_sub, BitVec.toNat_ofNat]
  omega

theorem sub8_eq (a v : Byte) (cin : Bool) :
    sub8 a v cin = (BitVec.ofNat 8 (a.toNat + 512 - v.toNat - cin.toNat),
      { z := decide ((a.toNat + 512 - v.toNat - cin.toNat) % 256 = 0), n := true
        h := decide (a.toNat % 16 < v.toNat % 16 + cin.toNat)
        c := decide (a.toNat < v.toNat + cin.toNat) }) := by
  rw [sub8, sub_sub_eq_ofNat, ofNat_beq_zero]

/-! ## The operand forms -/

/-- An operation writes A, the four flags and the count, and nothing else. -/
theorem aluWith_eq (o : AluOp) {v x : Byte} {f : Flags} {s : State} (h : aluResult o s.a v s.fC = (x, f)) (k : Nat) :
    aluWith o v k s = { s with a := x, fZ := f.z, fN := f.n, fH := f.h, fC := f.c, cycles := some k } := by
  rw [aluWith, h]; rfl

/-- The register, `(HL)` and immediate forms differ in the second operand and the count alone. -/
theorem exec_aluForms {o : AluOp} {s : State} {answer : Byte → Nat → Result}
    (h : ∀ v k, .next (aluWith o v k s) = answer v k) (r : Reg8) (n : Byte) :
    exec (.aluReg o r) s = answer (s.getReg8 r) 4 ∧
    exec (.aluAtHL o) s = answer (s.bus.read s.hl) 8 ∧
    exec (.aluImm o n) s = answer n 8 :=
  ⟨(exec_aluReg o r s).trans (h _ _), (exec_aluAtHL o s).trans (h _ _), (exec_aluImm o n s).trans (h _ _)⟩

end Sys2Proof.Machine

open Sys2Proof Sys2Proof.Machine

/-- Settles O18: ADD and ADC are `add8` with carry-in 0 and the old fC, in each of the three operand forms. -/
theorem addWithAndWithoutCarry : Obligations.AddWithAndWithoutCarry := by
  unfold Obligations.AddWithAndWithoutCarry
  intro s r n sum carry
  have hcarry : s.fC.toNat = carry := Bool.cond_eq_ite s.fC 1 0
  have hadd (v : Byte) (k : Nat) : .next (aluWith .add v k s) = sum v 0 k := by
    rw [aluWith_eq .add (add8_eq s.a v false)]; rfl
  have hadc (v : Byte) (k : Nat) : .next (aluWith .adc v k s) = sum v carry k := by
    rw [aluWith_eq .adc (add8_eq s.a v s.fC), hcarry]
  obtain ⟨addReg, addAtHL, addImm⟩ := exec_aluForms hadd r n
  obtain ⟨adcReg, adcAtHL, adcImm⟩ := exec_aluForms hadc r n
  exact ⟨addReg, addAtHL, addImm, adcReg, adcAtHL, adcImm⟩

/-- Settles O19: SUB and SBC are `sub8` with carry-in 0 and the old fC; CP takes the flags of SUB and A's own byte. -/
theorem subtractAndCompare : Obligations.SubtractAndCompare := by
  unfold Obligations.SubtractAndCompare
  intro s r n difference flagged m carry
  have hcarry : s.fC.toNat = carry := Bool.cond_eq_ite s.fC 1 0
  have hsub (v : Byte) (k : Nat) : .next (aluWith .sub v k s) = flagged (difference v 0) v 0 k := by
    rw [aluWith_eq .sub (sub8_eq s.a v false)]; rfl
  have hsbc (v : Byte) (k : Nat) : .next (aluWith .sbc v k s) = flagged (difference v carry) v carry k := by
    rw [aluWith_eq .sbc (sub8_eq s.a v s.fC), hcarry]
  have hcp (v : Byte) (k : Nat) : .next (aluWith .cp v k s) = flagged s.a v 0 k := by
    rw [aluWith_eq .cp rfl, sub8_eq]; rfl
  obtain ⟨subReg, subAtHL, subImm⟩ := exec_aluForms hsub r n
  obtain ⟨sbcReg, sbcAtHL, sbcImm⟩ := exec_aluForms hsbc r n
  exact ⟨subReg, subAtHL, subImm, sbcReg, sbcAtHL, sbcImm, exec_aluForms hcp r n⟩

/-- Settles O20: each operation is its bit function, with fH set by AND alone. -/
theorem logicOnA : Obligations.LogicOnA := by
  unfold Obligations.LogicOnA
  intro s r n flagged m
  have hand (v : Byte) (k : Nat) : .next (aluWith .and v k s) = flagged (s.a &&& v) true k :=
    congrArg _ (aluWith_eq _ rfl k)
  have hxor (v : Byte) (k : Nat) : .next (aluWith .xor v k s) = flagged (s.a ^^^ v) false k :=
    congrArg _ (aluWith_eq _ rfl k)
  have hor (v : Byte) (k : Nat) : .next (aluWith .or v k s) = flagged (s.a ||| v) false k :=
    congrArg _ (aluWith_eq _ rfl k)
  obtain ⟨andReg, andAtHL, andImm⟩ := exec_aluForms hand r n
  obtain ⟨xorReg, xorAtHL, xorImm⟩ := exec_aluForms hxor r n
  exact ⟨andReg, andAtHL, andImm, xorReg, xorAtHL, xorImm, exec_aluForms hor r n⟩
end

section
/-! PROOFS. Family 43_add16_sp.md: ADD SP,e8 and LD HL,SP+e8. Before them the sign extension of R13 and the sum of R211 as
exact integers. -/

namespace Sys2Proof.Machine

/-- R13's two cases are the byte's signed value, narrowed to 16 bits: 0xFF00 is 65536 - 256. -/
theorem signExtend16_eq_ofInt (e : Byte) : signExtend16 e = BitVec.ofInt 16 e.toInt := by
  apply BitVec.eq_of_toNat_eq
  have hbyte := e.isLt
  rw [signExtend16, BitVec.toNat_ofInt, BitVec.toInt_eq_toNat_cond]
  by_cases hpos : e.toNat < 128
  · rw [if_pos hpos, if_pos (by omega), BitVec.toNat_setWidth]; omega
  · rw [if_neg hpos, if_neg (by omega), BitVec.toNat_add, BitVec.toNat_setWidth, BitVec.toNat_ofNat]; omega

/-- A word plus a sign-extended byte is the exact signed sum, narrowed to 16 bits (R211). -/
theorem add_signExtend16 (w : Word) (e : Byte) : w + signExtend16 e = BitVec.ofInt 16 ((w.toNat : Int) + e.toInt) := by
  have hword : BitVec.ofInt 16 (w.toNat : Int) = w := by
    rw [BitVec.ofInt_natCast, BitVec.ofNat_toNat, BitVec.setWidth_eq]
  rw [BitVec.ofInt_add, hword, signExtend16_eq_ofInt]

/-- Only the sum of `spAdd` needs arithmetic: its flags already speak of the unsigned low bytes (R211). -/
theorem spAdd_eq (sp : Word) (e : Byte) :
    spAdd sp e = (BitVec.ofInt 16 ((sp.toNat : Int) + e.toInt),
      { z := false, n := false
        h := decide (sp.toNat % 16 + e.toNat % 16 > 15), c := decide (sp.toNat % 256 + e.toNat > 255) }) := by
  rw [spAdd, add_signExtend16]

theorem exec_addSPE8 (e : Byte) (s : State) : exec (.addSPE8 e) s = .next (addSP e s) := exec_of_formOf rfl s

theorem exec_ldHLSPE8 (e : Byte) (s : State) : exec (.ldHLSPE8 e) s = .next (loadHLSP e s) := exec_of_formOf rfl s

end Sys2Proof.Machine

open Sys2Proof Sys2Proof.Machine

/-- Settles O17: both forms are `spAdd`, whose sum goes to SP in the one and to HL in the other. -/
theorem addToSP : Obligations.AddToSP := by
  unfold Obligations.AddToSP
  intro s e sum h c
  refine ⟨?addSP, ?loadHL⟩
  case addSP => rw [exec_addSPE8, addSP, spAdd_eq]; rfl
  case loadHL => rw [exec_ldHLSPE8, loadHLSP, spAdd_eq]; rfl
end

section
/-! PROOFS. Family 44_rotates_shifts.md: the eight functions of the extended page. Before them what each makes of a byte
(R224 to R231), and one rule for the register and the `(HL)` form: what a function writes and flags in each. -/

namespace Sys2Proof.Machine

/-! ## One bit in, the other seven moved -/

/-- A byte whose bit 0 is `c` and whose other bits are the next lower bits of `v` is the model's left shift of `v`. -/
theorem extractLow_append_eq {v x : Byte} {c : Bool} (hin : x[0] = c)
    (hrest : ∀ i (h : i + 1 < 8), x[i + 1] = v[i]) : v.extractLsb' 0 7 ++ bitOf c = x := by
  apply BitVec.eq_of_getElem_eq
  intro i hi
  rw [BitVec.getElem_append]
  cases i with
  | zero => exact BitVec.getElem_ofBool.trans hin.symm
  | succ j => simp [hrest j hi, BitVec.getLsbD_eq_getElem (show j < 8 by omega)]

/-- A byte whose bit 7 is `c` and whose other bits are the next higher bits of `v` is the model's right shift of `v`. -/
theorem append_extractHigh_eq {v x : Byte} {c : Bool} (hin : x[7] = c)
    (hrest : ∀ i (h : 1 + i < 8), x[i] = v[1 + i]) : bitOf c ++ v.extractLsb' 1 7 = x := by
  apply BitVec.eq_of_getElem_eq
  intro i hi
  rw [BitVec.getElem_append]
  rcases Nat.lt_or_eq_of_le (Nat.le_of_lt_succ hi) with h | rfl
  · simp [h, hrest i (by omega), BitVec.getLsbD_eq_getElem (show 1 + i < 8 by omega)]
  · exact BitVec.getElem_ofBool.trans hin.symm

/-- The two nibbles exchanged are the byte rotated by four. -/
theorem extractNibbles_append (v : Byte) : (v.extractLsb' 0 4 ++ v.extractLsb' 4 4 : Byte) = v.rotateLeft 4 :=
  calc (v.extractLsb' 0 4 ++ v.extractLsb' 4 4 : Byte)
    _ = (v.extractLsb' 0 4 ||| 0#4) ++ (0#4 ||| v.extractLsb' 4 4) := by rw [BitVec.or_zero, BitVec.zero_or]
    _ = (v.extractLsb' 0 4 ++ 0#4) ||| (0#4 ++ v.extractLsb' 4 4) := BitVec.or_append.symm
    _ = (v <<< 4) ||| (v >>> 4) := by
      rw [BitVec.shiftLeft_eq_concat_of_lt (by decide), BitVec.ushiftRight_eq_extractLsb'_of_lt (by decide)]; rfl

/-! ## The eight functions (R224 to R231) -/

theorem shiftBits_rlc (v : Byte) (cin : Bool) : shiftBits .rlc v cin = (v.rotateLeft 1, v.getLsbD 7) :=
  Prod.ext (extractLow_append_eq (by simp) fun i hi => by simp) rfl

theorem shiftBits_rrc (v : Byte) (cin : Bool) : shiftBits .rrc v cin = (v.rotateRight 1, v.getLsbD 0) :=
  Prod.ext (append_extractHigh_eq (by simp) fun i hi => by
    simp [BitVec.getElem_rotateRight, show i < 7 by omega]) rfl

theorem shiftBits_rl (v : Byte) (cin : Bool) :
    shiftBits .rl v cin = ((v <<< 1) ||| (BitVec.ofBool cin).setWidth 8, v.getLsbD 7) :=
  Prod.ext (extractLow_append_eq (by simp) fun i hi => by simp) rfl

theorem shiftBits_rr (v : Byte) (cin : Bool) :
    shiftBits .rr v cin = ((v >>> 1) ||| ((BitVec.ofBool cin).setWidth 8 <<< 7), v.getLsbD 0) :=
  Prod.ext (append_extractHigh_eq (by simp) fun i hi => by
    simp [BitVec.getLsbD_eq_getElem hi, show i < 7 by omega]) rfl

theorem shiftBits_sla (v : Byte) (cin : Bool) : shiftBits .sla v cin = (v <<< 1, v.getLsbD 7) :=
  Prod.ext (extractLow_append_eq (by simp) fun i hi => by simp) rfl

/-- The bit shifted in is the sign, so bit 7 keeps its value. -/
theorem shiftBits_sra (v : Byte) (cin : Bool) : shiftBits .sra v cin = (v.sshiftRight 1, v.getLsbD 0) :=
  Prod.ext (append_extractHigh_eq (BitVec.getElem_sshiftRight _) fun i hi => by
    simp [BitVec.getElem_sshiftRight, hi]) rfl

/-- The nibbles change places and no bit moves out. -/
theorem shiftBits_swap (v : Byte) (cin : Bool) : shiftBits .swap v cin = (v.rotateLeft 4, false) :=
  Prod.ext (extractNibbles_append v) rfl

theorem shiftBits_srl (v : Byte) (cin : Bool) : shiftBits .srl v cin = (v >>> 1, v.getLsbD 0) :=
  Prod.ext (append_extractHigh_eq (by simp) fun i hi => by simp [BitVec.getLsbD_eq_getElem hi]) rfl

/-! ## The operand forms (R232 to R247) -/

theorem shift8_eq {o : ShiftOp} {v x : Byte} {cin c : Bool} (h : shiftBits o v cin = (x, c)) :
    shift8 o v cin = (x, { z := decide (x = 0x00#8), n := false, h := false, c := c }) := by
  rw [shift8, h]; rfl

/-- The register and `(HL)` forms differ in the byte read, where the result goes, and the count; the flags are those of
the byte read in both. -/
theorem exec_shiftForms {o : ShiftOp} {s : State} {shifted : Byte → Byte} {out : Byte → Bool}
    (h : ∀ v, shiftBits o v s.fC = (shifted v, out v)) (r : Reg8) :
    exec (.shiftReg o r) s = .next { s.setReg8 r (shifted (s.getReg8 r)) with
      fZ := decide (shifted (s.getReg8 r) = 0x00#8), fN := false, fH := false, fC := out (s.getReg8 r)
      cycles := some 8 } ∧
    exec (.shiftAtHL o) s = .next { s with
      bus := s.bus.write s.hl (shifted (s.bus.read s.hl))
      fZ := decide (shifted (s.bus.read s.hl) = 0x00#8), fN := false, fH := false, fC := out (s.bus.read s.hl)
      cycles := some 16 } := by
  constructor
  · rw [exec_shiftReg, shiftRegister, shift8_eq (h _)]; rfl
  · rw [exec_shiftAtHL, shiftMemory, shift8_eq (h _)]; rfl

end Sys2Proof.Machine

open Sys2Proof Sys2Proof.Machine

/-- Settles O22: each rotate's byte and carry out, by `exec_shiftForms` in its two operand forms. -/
theorem rotateRegisterOrMemory : Obligations.RotateRegisterOrMemory := by
  unfold Obligations.RotateRegisterOrMemory
  intro s r toReg toMem v m low
  obtain ⟨rlcReg, rlcAtHL⟩ := exec_shiftForms (shiftBits_rlc · s.fC) r
  obtain ⟨rrcReg, rrcAtHL⟩ := exec_shiftForms (shiftBits_rrc · s.fC) r
  obtain ⟨rlReg, rlAtHL⟩ := exec_shiftForms (shiftBits_rl · s.fC) r
  exact ⟨rlcReg, rlcAtHL, rrcReg, rrcAtHL, rlReg, rlAtHL, exec_shiftForms (shiftBits_rr · s.fC) r⟩

/-- Settles O23: each shift's byte and carry out, by `exec_shiftForms` in its two operand forms. -/
theorem shiftRegisterOrMemory : Obligations.ShiftRegisterOrMemory := by
  unfold Obligations.ShiftRegisterOrMemory
  intro s r toReg toMem v m
  obtain ⟨slaReg, slaAtHL⟩ := exec_shiftForms (shiftBits_sla · s.fC) r
  obtain ⟨sraReg, sraAtHL⟩ := exec_shiftForms (shiftBits_sra · s.fC) r
  obtain ⟨swapReg, swapAtHL⟩ := exec_shiftForms (shiftBits_swap · s.fC) r
  exact ⟨slaReg, slaAtHL, sraReg, sraAtHL, swapReg, swapAtHL, exec_shiftForms (shiftBits_srl · s.fC) r⟩
end

section
/-! PROOFS. Family 45_bit_ops.md: BIT, RES and SET. Before them what each makes of the byte it reads, the same for the
register and the `(HL)` form: the flags of BIT, and the mask `1 << b` of RES and SET as a power of two. -/

namespace Sys2Proof.Machine

/-- `BIT` writes three flags and nothing else; fC comes back as it was (R250). -/
theorem setFlags_bitFlags (b : Fin 8) (v : Byte) (s : State) :
    s.setFlags (bitFlags b v s.flags) = { s with fZ := !v.getLsbD b, fN := false, fH := true } := rfl

theorem resetBit_eq_and_not_twoPow (b : Fin 8) (v : Byte) : resetBit b v = v &&& ~~~(BitVec.twoPow 8 b) := rfl

theorem setBit_eq_or_twoPow (b : Fin 8) (v : Byte) : setBit b v = v ||| BitVec.twoPow 8 b := rfl

end Sys2Proof.Machine

open Sys2Proof Sys2Proof.Machine

/-- Settles O24: the register and the `(HL)` form of each make the same of the byte they read (`setFlags_bitFlags`,
`resetBit_eq_and_not_twoPow`, `setBit_eq_or_twoPow`); they differ in where it is read and written, and in the count. -/
theorem bitInstructions : Obligations.BitInstructions := by
  unfold Obligations.BitInstructions
  intro s b r v m
  refine ⟨?bitReg, ?bitAtHL, ?resReg, ?resAtHL, ?setReg, ?setAtHL⟩
  case bitReg => rw [exec_bitReg, testRegisterBit, setFlags_bitFlags]; rfl
  case bitAtHL => rw [exec_bitAtHL, testMemoryBit, setFlags_bitFlags]; rfl
  case resReg => rw [exec_resReg, resetRegisterBit, resetBit_eq_and_not_twoPow]; rfl
  case resAtHL => rw [exec_resAtHL, resetMemoryBit, resetBit_eq_and_not_twoPow]; rfl
  case setReg => rw [exec_setReg, setRegisterBit, setBit_eq_or_twoPow]; rfl
  case setAtHL => rw [exec_setAtHL, setMemoryBit, setBit_eq_or_twoPow]; rfl
end

section
/-! PROOFS. Family 46_control_flow.md: jumps, calls, returns and restarts. Before them the condition of the four `cc` rows
spelt out as a flag, the target of JR as an exact sum, and the push as one update of the state. -/

namespace Sys2Proof.Machine

/-! ## Conditions -/

theorem State.cond_nz (s : State) : s.cond .nz = true ↔ s.fZ = false := by rw [State.cond, Bool.not_eq_true']

theorem State.cond_nc (s : State) : s.cond .nc = true ↔ s.fC = false := by rw [State.cond, Bool.not_eq_true']

/-- What a conditional instruction answers when its condition holds and when it does not gives its four rows, each with
the flag that decides it (R262). -/
theorem exec_condRows {i : Cond → Instr} {s taken passed : State}
    (h : ∀ cc, exec (i cc) s = .next (if s.cond cc then taken else passed)) :
    exec (i .nz) s = (if s.fZ = false then .next taken else .next passed) ∧
    exec (i .z) s = (if s.fZ = true then .next taken else .next passed) ∧
    exec (i .nc) s = (if s.fC = false then .next taken else .next passed) ∧
    exec (i .c) s = (if s.fC = true then .next taken else .next passed) := by
  have hrow (cc : Cond) : exec (i cc) s = if s.cond cc then .next taken else .next passed :=
    (h cc).trans (apply_ite Host.Outcome.next _ taken passed)
  exact ⟨(hrow .nz).trans (if_congr s.cond_nz rfl rfl), hrow .z,
    (hrow .nc).trans (if_congr s.cond_nc rfl rfl), hrow .c⟩

/-! ## The push of PC -/

/-- A push writes the high byte at SP - 1, then the low byte at SP - 2, and leaves SP there (R280). -/
theorem State.push16_eq (s : State) (v : Word) :
    s.push16 v = { s with
      sp := s.sp - 2#16
      bus := (s.bus.write (s.sp - 1#16) (v.extractLsb' 8 8)).write (s.sp - 2#16) (v.extractLsb' 0 8) } := by
  have hsp : s.sp - 1#16 - 1#16 = s.sp - 2#16 := sub_sub s.sp 1#16 1#16
  rw [← hsp]; rfl

/-! ## The one-row forms -/

theorem exec_jpA16 (w : Word) (s : State) : exec (.jpA16 w) s = .next (jump w s) := exec_of_formOf rfl s

theorem exec_jpAtHL (s : State) : exec .jpAtHL s = .next (jumpHL s) := exec_of_formOf rfl s

theorem exec_jrE8 (e : Byte) (s : State) : exec (.jrE8 e) s = .next (jumpRelative e s) := exec_of_formOf rfl s

theorem exec_callA16 (w : Word) (s : State) : exec (.callA16 w) s = .next (call w s) := exec_of_formOf rfl s

theorem exec_ret (s : State) : exec .ret s = .next (ret s) := exec_of_formOf rfl s

end Sys2Proof.Machine

open Sys2Proof Sys2Proof.Machine

/-- Settles O25: a jump writes PC and the count alone; the target of JR is the exact sum by `add_signExtend16`, and each
condition comes from `exec_condRows`. -/
theorem jumps : Obligations.Jumps := by
  unfold Obligations.Jumps
  intro s w e goto rel
  have hrel : s.pc + signExtend16 e = rel := add_signExtend16 s.pc e
  rw [← hrel]
  obtain ⟨jpNZ, jpZ, jpNC, jpC⟩ := exec_condRows (exec_jpCond · w s)
  exact ⟨exec_jpA16 w s, exec_jpAtHL s, exec_jrE8 e s, jpNZ, jpZ, jpNC, jpC, exec_condRows (exec_jrCond · e s)⟩

/-- Settles O26: a taken call and a restart are one push of PC (`State.push16_eq`), then PC at the target; a call not
taken pushes nothing. -/
theorem callsAndRestarts : Obligations.CallsAndRestarts := by
  unfold Obligations.CallsAndRestarts
  intro s w y goto no
  have hgoto (t : Word) (k : Nat) : .next (((s.push16 s.pc).setPc t).tick k) = goto t k := by rw [s.push16_eq]; rfl
  rw [← hgoto w 24, Nat.mul_comm y.val 8, ← hgoto _ 16]
  obtain ⟨callNZ, callZ, callNC, callC⟩ := exec_condRows (exec_callCond · w s)
  exact ⟨exec_callA16 w s, callNZ, callZ, callNC, callC, exec_rst y s⟩

/-- Settles O27: a taken return is `pop16()` into PC, which only reads; a return not taken changes the count alone. -/
theorem returns : Obligations.Returns := by
  unfold Obligations.Returns
  intro s back no
  exact ⟨exec_ret s, exec_condRows (exec_retCond · s)⟩
end

section
/-! PROOFS. Family 47_stack.md: PUSH and POP. Before them what a push answers for a pair given by its two bytes, and
what a popped word, given by its two bytes, writes into each pair. -/

namespace Sys2Proof.Machine

/-! ## Pushes -/

theorem exec_push_of_getStackPair_eq {p : StackPair} {s : State} {h l : Byte} (hp : s.getStackPair p = joinBytes h l) :
    exec (.push p) s = .next { s with
      sp := s.sp - 2#16, bus := (s.bus.write (s.sp - 1#16) h).write (s.sp - 2#16) l, cycles := some 16 } := by
  have hhi : (s.getStackPair p).extractLsb' 8 8 = h := hp ▸ hiByte_joinBytes h l
  have hlo : (s.getStackPair p).extractLsb' 0 8 = l := hp ▸ loByte_joinBytes h l
  rw [exec_push, pushPair, s.push16_eq, hhi, hlo]; rfl

/-! ## Pops -/

/-- "the low byte goes to C, E or L, the high byte to B, D or H" (R284). -/
theorem State.setStackPair_bc_joinBytes (s : State) (h l : Byte) :
    s.setStackPair .bc (joinBytes h l) = { s with b := h, c := l } := by
  rw [State.setStackPair, State.setPair, hiByte_joinBytes, loByte_joinBytes]

theorem State.setStackPair_de_joinBytes (s : State) (h l : Byte) :
    s.setStackPair .de (joinBytes h l) = { s with d := h, e := l } := by
  rw [State.setStackPair, State.setPair, hiByte_joinBytes, loByte_joinBytes]

/-- The low byte's bits 7 to 4 go to the flags; its bits 3 to 0 are dropped (R285). -/
theorem State.setStackPair_af_joinBytes (s : State) (h l : Byte) :
    s.setStackPair .af (joinBytes h l) =
      { s with a := h, fZ := l.getLsbD 7, fN := l.getLsbD 6, fH := l.getLsbD 5, fC := l.getLsbD 4 } := by
  rw [State.setStackPair, hiByte_joinBytes, loByte_joinBytes]; rfl

/-- A pop reads the low byte at SP and the high byte at SP + 1, and writes only the pair, SP and the count (R281). -/
theorem exec_pop_of_setStackPair_eq {p : StackPair} {s t : State}
    (ht : s.popSp.setStackPair p (joinBytes (s.bus.read (s.sp + 1#16)) (s.bus.read s.sp)) = t) :
    exec (.pop p) s = .next { t with cycles := some 12 } :=
  ht ▸ exec_pop p s

end Sys2Proof.Machine

open Sys2Proof Sys2Proof.Machine

/-- Settles O28: a push writes the two bytes of its pair (`exec_push_of_getStackPair_eq`), F packed for AF; a pop splits
the word read into the two bytes of its pair (`State.setStackPair_bc_joinBytes` and the like), HL taking it whole. -/
theorem pushAndPop : Obligations.PushAndPop := by
  unfold Obligations.PushAndPop
  intro s pushed hi lo f
  refine ⟨?pushBC, ?pushDE, ?pushHL, ?pushAF, ?popBC, ?popDE, ?popHL, ?popAF⟩
  case pushBC => exact exec_push_of_getStackPair_eq (p := .bc) rfl
  case pushDE => exact exec_push_of_getStackPair_eq (p := .de) rfl
  case pushHL => exact exec_push_of_getStackPair_eq (p := .hl) (joinBytes_hiByte_loByte s.hl).symm
  case pushAF => exact exec_push_of_getStackPair_eq (p := .af) rfl
  case popBC => exact exec_pop_of_setStackPair_eq (s.popSp.setStackPair_bc_joinBytes hi lo)
  case popDE => exact exec_pop_of_setStackPair_eq (s.popSp.setStackPair_de_joinBytes hi lo)
  case popHL => exact exec_pop_of_setStackPair_eq (p := .hl) rfl
  case popAF => exact exec_pop_of_setStackPair_eq (s.popSp.setStackPair_af_joinBytes hi lo)
end

section
/-! PROOFS. Family 48_daa_misc.md: DAA, CPL, SCF, CCF and NOP. Before them the byte and the carry of DAA in the arithmetic
of R290, one lemma for each branch, and what `exec` answers for it once the two are known. -/

namespace Sys2Proof.Machine

/-! ## The function of R290 -/

/-- 0x60 and 0x06 share no bit: the OR of what the two tests choose is their sum. -/
theorem or_eq_ofNat_add (high low : Prop) [Decidable high] [Decidable low] :
    (if high then 0x60#8 else 0x00#8) ||| (if low then 0x06#8 else 0x00#8) =
      BitVec.ofNat 8 ((if high then 0x60 else 0) + (if low then 0x06 else 0)) := by
  by_cases hhigh : high <;> by_cases hlow : low <;> simp only [hhigh, hlow, if_true, if_false] <;> rfl

theorem daaAdjust_of_add (a : Byte) {f : Flags} (hn : f.n = false) :
    daaAdjust a f = BitVec.ofNat 8 ((if f.c = true ∨ a.toNat > 0x99 then 0x60 else 0) +
      (if f.h = true ∨ a.toNat % 16 > 9 then 0x06 else 0)) := by
  simp only [daaAdjust, hn, Bool.not_false, Bool.true_and, Bool.or_eq_true, decide_eq_true_eq, or_eq_ofNat_add]

/-- "In the subtraction branch A's own value selects nothing" (R290). -/
theorem daaAdjust_of_sub (a : Byte) {f : Flags} (hn : f.n = true) :
    daaAdjust a f = BitVec.ofNat 8 ((if f.c = true then 0x60 else 0) + (if f.h = true then 0x06 else 0)) := by
  simp only [daaAdjust, hn, Bool.not_true, Bool.false_and, Bool.or_false, or_eq_ofNat_add]

theorem add_ofNat_eq_ofNat (a : Byte) (k : Nat) : a + BitVec.ofNat 8 k = BitVec.ofNat 8 (a.toNat + k) := by
  rw [BitVec.ofNat_add, BitVec.ofNat_toNat, BitVec.setWidth_eq]

/-- 256 is 0 mod 256 and at least the adjustment, so the natural subtraction never cuts off at 0. -/
theorem sub_ofNat_eq_ofNat (a : Byte) {k : Nat} (hk : k ≤ 256) :
    a - BitVec.ofNat 8 k = BitVec.ofNat 8 (a.toNat + 256 - k) := by
  apply BitVec.eq_of_toNat_eq
  simp only [BitVec.toNat_sub, BitVec.toNat_ofNat]
  omega

theorem daa_fst_of_add (a : Byte) {f : Flags} (hn : f.n = false) :
    (daa a f).1 = BitVec.ofNat 8 (a.toNat + ((if f.c = true ∨ a.toNat > 0x99 then 0x60 else 0) +
      (if f.h = true ∨ a.toNat % 16 > 9 then 0x06 else 0))) :=
  calc (daa a f).1
    _ = a + daaAdjust a f := if_neg (hn ▸ Bool.false_ne_true)
    _ = _ := by rw [daaAdjust_of_add a hn, add_ofNat_eq_ofNat]

theorem daa_fst_of_sub (a : Byte) {f : Flags} (hn : f.n = true) :
    (daa a f).1 =
      BitVec.ofNat 8 (a.toNat + 256 - ((if f.c = true then 0x60 else 0) + (if f.h = true then 0x06 else 0))) :=
  calc (daa a f).1
    _ = a - daaAdjust a f := if_pos hn
    _ = _ := by rw [daaAdjust_of_sub a hn, sub_ofNat_eq_ofNat a (by split <;> split <;> decide)]

theorem daa_carry_of_add (a : Byte) {f : Flags} (hn : f.n = false) :
    (daa a f).2.c = (f.c || decide (a.toNat > 0x99)) := by
  rw [daa, hn, Bool.not_false, Bool.true_and]

theorem daa_carry_of_sub (a : Byte) {f : Flags} (hn : f.n = true) : (daa a f).2.c = f.c := by
  rw [daa, hn, Bool.not_true, Bool.false_and, Bool.or_false]

/-! ## The one-row forms -/

/-- `DAA` writes A, three flags and the count; fZ is of the new A, and fN is kept. -/
theorem exec_daa_of_eq {s : State} {y : Byte} {c : Bool} (hy : (daa s.a s.flags).1 = y)
    (hc : (daa s.a s.flags).2.c = c) :
    exec .daa s = .next { s with a := y, fZ := decide (y = 0x00#8), fH := false, fC := c, cycles := some 4 } := by
  subst hy hc
  exact exec_of_formOf rfl s

/-- The XOR with 0xFF of R291 is the complement. -/
theorem exec_cpl (s : State) :
    exec .cpl s = .next { s with a := ~~~s.a, fN := true, fH := true, cycles := some 4 } := by
  have hnot : s.a ^^^ 0xFF#8 = ~~~s.a := BitVec.xor_allOnes
  rw [exec_of_formOf rfl s, ← hnot]; rfl

theorem exec_scf (s : State) : exec .scf s = .next (setCarry s) := exec_of_formOf rfl s

theorem exec_ccf (s : State) : exec .ccf s = .next (complementCarry s) := exec_of_formOf rfl s

theorem exec_nop (s : State) : exec .nop s = .next (nop s) := exec_of_formOf rfl s

end Sys2Proof.Machine

open Sys2Proof Sys2Proof.Machine

/-- Settles O30: in each branch the byte and the carry of `daa`, in the arithmetic of R290, are what DAA writes. -/
theorem decimalAdjust : Obligations.DecimalAdjust := by
  unfold Obligations.DecimalAdjust
  intro s x six sixty six' sixty' adjusted
  refine ⟨fun hn => ?add, fun hn => ?sub⟩
  case add => exact exec_daa_of_eq (daa_fst_of_add s.a hn) (daa_carry_of_add s.a hn)
  case sub => exact exec_daa_of_eq (daa_fst_of_sub s.a hn) (daa_carry_of_sub s.a hn)

/-- Settles O32: each meaning is a write of A or of flags, then the count; only CPL's mask needs a word. -/
theorem flagInstructionsAndNop : Obligations.FlagInstructionsAndNop := by
  unfold Obligations.FlagInstructionsAndNop
  intro s
  exact ⟨exec_cpl s, exec_scf s, exec_ccf s, exec_nop s⟩
end

section
/-! PROOFS. Encoding and decoding (30_encoding.md, 49_unassigned.md): that each inverts the other, and which bytes are
unassigned. Before them the encoder on each part of the decoder, field by field; that direction then gives the other
one, since the decoder is a left inverse of the encoder on whole instructions. -/

namespace Sys2Proof.Machine

/-! ## The encoder on the decoder's parts -/

/-- The opcode byte of three field values (R112). -/
def opcodeOf (x : Fin 4) (y z : Fin 8) : Byte := BitVec.ofNat 8 (x.val * 64 + y.val * 8 + z.val)

theorem opcodeOf_fields (op : Byte) : opcodeOf (fieldX op) (fieldY op) (fieldZ op) = op := by
  apply BitVec.eq_of_toNat_eq
  have := op.isLt
  simp only [opcodeOf, fieldX, fieldY, fieldZ, BitVec.toNat_ofNat]
  omega

/-- The bytes an instruction with first byte `op` has when the two bytes after `op` are those of `w` (R126). -/
def bytesFrom (op : Byte) (w : Word) : List Byte := [op, loByte w, hiByte w].take (lengthOf op)

theorem encode_decodeX0 (y z : Fin 8) (w : Word) :
    encode (decodeX0 y z (loByte w) w) = bytesFrom (opcodeOf 0 y z) w := by
  fin_cases z <;> fin_cases y <;> rfl

theorem encode_decodeLoad (y z : Fin 8) (w : Word) :
    encode (decodeLoad (loc8 y) (loc8 z)) = bytesFrom (opcodeOf 1 y z) w := by
  fin_cases z <;> fin_cases y <;> rfl

theorem encode_decodeAlu (y z : Fin 8) (w : Word) :
    encode (decodeAlu (aluOpOf y) (loc8 z)) = bytesFrom (opcodeOf 2 y z) w := by
  fin_cases z <;> fin_cases y <;> rfl

/-- The prefix byte is the one byte of the quadrant that the base page does not decode to a whole instruction (R121). -/
theorem encode_decodeX3 (y z : Fin 8) (w : Word) :
    encode (decodeX3 y z (loByte w) w) =
      if opcodeOf 3 y z = 0xCB#8 then [0xCB#8] else bytesFrom (opcodeOf 3 y z) w := by
  fin_cases z <;> fin_cases y <;> rfl

theorem encode_decodeBase {op : Byte} (w : Word) (hp : op ≠ 0xCB#8) :
    encode (decodeBase op (loByte w) w) = bytesFrom op w := by
  have hop := opcodeOf_fields op
  unfold decodeBase
  generalize fieldX op = x at *
  generalize fieldY op = y at *
  generalize fieldZ op = z at *
  subst hop
  fin_cases x
  · exact encode_decodeX0 y z w
  · exact encode_decodeLoad y z w
  · exact encode_decodeAlu y z w
  · exact (encode_decodeX3 y z w).trans (if_neg hp)

theorem encode_decodeExtended (op2 : Byte) : encode (decodeExtended op2) = [0xCB#8, op2] := by
  revert op2; decide

/-- The encoding of what is read from three bytes is as many of them as the first one calls for (R110, R126). -/
theorem encode_decodeBytes (b0 b1 b2 : Byte) : encode (decodeBytes b0 b1 b2) = [b0, b1, b2].take (lengthOf b0) := by
  by_cases hp : b0 = 0xCB#8
  · subst hp
    rw [decodeBytes_prefix, encode_decodeExtended]; rfl
  · have h := encode_decodeBase (joinBytes b2 b1) hp
    rw [bytesFrom, loByte_joinBytes, hiByte_joinBytes] at h
    rw [decodeBytes, if_neg hp, h]

/-! ## The decoder on the encoder's bytes -/

/-- The decoder on the bytes of a whole instruction, two more bytes after them. -/
theorem decode_encode_append_zeros {i : Instr} (hi : WellFormed i = true) :
    decode (encode i ++ [0x00#8, 0x00#8]) = .ok (i, (encode i).length) := by
  cases i with
  | prefixCB => exact absurd hi (by decide)
  | ldBCD16 w | ldDED16 w | ldHLD16 w | ldSPD16 w | ldAtA16SP w | jpA16 w | jpNZA16 w | jpZA16 w | jpNCA16 w
  | jpCA16 w | callA16 w | callNZA16 w | callZA16 w | callNCA16 w | callCA16 w | ldAtA16A w | ldAAtA16 w =>
    conv_rhs => rw [← joinBytes_hiByte_loByte w]
    rfl
  | _ => rfl

theorem encode_injective {i j : Instr} (hi : WellFormed i = true) (hj : WellFormed j = true)
    (h : encode i = encode j) : i = j := by
  have hij := decode_encode_append_zeros hi
  rw [h, decode_encode_append_zeros hj] at hij
  injection hij with hij
  exact (congrArg Prod.fst hij).symm

/-- An instruction has one byte, another than the prefix, or two or three (R126). -/
theorem lengthOf_cases (b0 : Byte) : (lengthOf b0 = 1 ∧ b0 ≠ 0xCB#8) ∨ lengthOf b0 = 2 ∨ lengthOf b0 = 3 := by
  by_cases hp : b0 = 0xCB#8
  · exact .inr (.inl (if_pos hp))
  · rw [lengthOf, if_neg hp]
    split
    · exact .inr (.inr rfl)
    · split
      · exact .inr (.inl rfl)
      · exact .inl ⟨rfl, hp⟩

/-- The first byte of the encoding of what is decoded is the first byte read. -/
theorem headD_encode_decodeBytes (b0 b1 b2 : Byte) : (encode (decodeBytes b0 b1 b2)).headD 0#8 = b0 := by
  rw [encode_decodeBytes]
  rcases lengthOf_cases b0 with ⟨h, -⟩ | h | h <;> rw [h] <;> rfl

/-- Three bytes never decode to the prefix alone (R121). -/
theorem wellFormed_decodeBytes (b0 b1 b2 : Byte) : WellFormed (decodeBytes b0 b1 b2) = true := by
  refine bne_iff_ne.2 fun h => ?_
  have hp := headD_encode_decodeBytes b0 b1 b2
  rw [h] at hp
  rw [show b0 = 0xCB#8 from hp.symm, decodeBytes_prefix] at h
  exact decodeExtended_ne_prefixCB _ h

theorem length_take_lengthOf (b0 b1 b2 : Byte) : ([b0, b1, b2].take (lengthOf b0)).length = lengthOf b0 := by
  rcases lengthOf_cases b0 with ⟨h, -⟩ | h | h <;> rw [h] <;> rfl

/-- What is decoded depends on the bytes of the first instruction alone: what follows them changes no byte it is encoded
in. -/
theorem decode_take_append (b0 b1 b2 : Byte) (rest : List Byte) :
    ∃ c1 c2, decode ([b0, b1, b2].take (lengthOf b0) ++ rest) = .ok (decodeBytes b0 c1 c2, lengthOf b0) ∧
      [b0, c1, c2].take (lengthOf b0) = [b0, b1, b2].take (lengthOf b0) := by
  rcases lengthOf_cases b0 with ⟨h, hp⟩ | h | h
  · match rest with
    | [] => exact ⟨0, 0, by simp [h, decode, hp], by rw [h]; rfl⟩
    | [c1] => exact ⟨c1, 0, by simp [h, decode], by rw [h]; rfl⟩
    | c1 :: c2 :: _ => exact ⟨c1, c2, by simp [h, decode], by rw [h]; rfl⟩
  · match rest with
    | [] => exact ⟨b1, 0, by simp [h, decode], by rw [h]; rfl⟩
    | c2 :: _ => exact ⟨b1, c2, by simp [h, decode], by rw [h]; rfl⟩
  · exact ⟨b1, b2, by simp [h, decode], rfl⟩

theorem encode_ne_nil (i : Instr) : encode i ≠ [] := by cases i <;> exact List.cons_ne_nil _ _

/-- A whole instruction is what some three bytes decode to: its own, then zeros. -/
theorem exists_decodeBytes_eq {i : Instr} (hi : WellFormed i = true) : ∃ b0 b1 b2, decodeBytes b0 b1 b2 = i := by
  have h := decode_encode_append_zeros hi
  obtain ⟨b0, l, hl⟩ := List.exists_cons_of_ne_nil (encode_ne_nil i)
  rw [hl] at h
  match l with
  | [] => exact ⟨b0, _, _, congrArg Prod.fst (Except.ok.inj h)⟩
  | [b1] => exact ⟨b0, b1, _, congrArg Prod.fst (Except.ok.inj h)⟩
  | b1 :: b2 :: _ => exact ⟨b0, b1, b2, congrArg Prod.fst (Except.ok.inj h)⟩

/-! ## The unassigned bytes -/

/-- The eleven instructions of R310. -/
def unassignedInstrs : List Instr :=
  [.illegalD3, .illegalDB, .illegalDD, .illegalE3, .illegalE4, .illegalEB, .illegalEC, .illegalED, .illegalF4,
    .illegalFC, .illegalFD]

/-- An unassigned instruction is encoded in one byte. -/
theorem encode_of_mem_unassignedInstrs : ∀ i ∈ unassignedInstrs, WellFormed i = true ∧
    encode i = [(encode i).headD 0#8] ∧ lengthOf ((encode i).headD 0#8) = 1 := by decide

/-- What is decoded is unassigned exactly when the first byte is one of theirs. -/
theorem decodeBytes_mem_unassignedInstrs (b0 b1 b2 : Byte) :
    decodeBytes b0 b1 b2 ∈ unassignedInstrs ↔ b0 ∈ unassignedInstrs.map fun i => (encode i).headD 0#8 := by
  constructor
  · intro h
    exact List.mem_map.2 ⟨_, h, headD_encode_decodeBytes b0 b1 b2⟩
  · intro h
    obtain ⟨i, hi, rfl⟩ := List.mem_map.1 h
    obtain ⟨hwf, hone, hlen⟩ := encode_of_mem_unassignedInstrs i hi
    have hbytes : encode (decodeBytes ((encode i).headD 0#8) b1 b2) = encode i := by
      rw [encode_decodeBytes, hlen]; exact hone.symm
    rw [encode_injective (wellFormed_decodeBytes _ _ _) hwf hbytes]
    exact hi

end Sys2Proof.Machine

open Sys2Proof Sys2Proof.Machine

/-- Settles O2: field by field of the opcode byte, then for the extended page. -/
theorem encodeOfDecode : Obligations.EncodeOfDecode := by
  unfold Obligations.EncodeOfDecode
  exact encode_decodeBytes

/-- Settles O1: the instruction is read from some three bytes; what is decoded, whatever follows, has the same encoding,
and so is the same instruction. -/
theorem decodeOfEncode : Obligations.DecodeOfEncode := by
  unfold Obligations.DecodeOfEncode
  intro i rest hi
  obtain ⟨b0, b1, b2, rfl⟩ := exists_decodeBytes_eq hi
  obtain ⟨c1, c2, hdecode, hbytes⟩ := decode_take_append b0 b1 b2 rest
  have hsame : decodeBytes b0 c1 c2 = decodeBytes b0 b1 b2 :=
    encode_injective (wellFormed_decodeBytes _ _ _) hi (by rw [encode_decodeBytes, encode_decodeBytes, hbytes])
  rw [encode_decodeBytes, hdecode, hsame, length_take_lengthOf]

/-- Settles O4: the eleven bytes are the encodings of the eleven instructions. -/
theorem unassignedBytes : Obligations.UnassignedBytes := by
  unfold Obligations.UnassignedBytes
  exact decodeBytes_mem_unassignedInstrs

/-- Settles O3: each word is decoded by the fields of its first byte. -/
theorem sampleEncodings : Obligations.SampleEncodings := by
  unfold Obligations.SampleEncodings
  exact ⟨rfl, rfl, rfl, rfl, rfl, rfl, rfl, rfl, rfl, rfl, rfl, rfl, rfl, rfl, rfl, rfl, rfl, rfl⟩
end

section
/-! PROOFS. The interrupt check (60_exceptions.md section 2). Before it the check's least enabled request, as the bits of
IE and IF. -/

namespace Sys2Proof.Machine

/-! ## The least enabled request (R328, R331) -/

theorem lowestPending_eq_none {p : BitVec 5} : lowestPending p = none ↔ ∀ j < 5, p.getLsbD j = false := by
  revert p; decide

theorem lowestPending_eq_some {p : BitVec 5} {i : Fin 5} :
    lowestPending p = some i ↔ p.getLsbD i.val = true ∧ ∀ j < i.val, p.getLsbD j = false := by
  revert p i; decide

/-- Request `j` is enabled and raised (R328). -/
abbrev State.requested (s : State) (j : Nat) : Prop :=
  (s.bus.mem.read addrIE).getLsbD j = true ∧ (s.bus.mem.read addrIF).getLsbD j = true

theorem State.getLsbD_pending (s : State) {j : Nat} (hj : j < 5) : s.pending.getLsbD j = true ↔ s.requested j := by
  simp [State.pending, State.requested, hj]

theorem State.lowestPending_pending_eq_none {s : State} :
    lowestPending s.pending = none ↔ ∀ j < 5, ¬ s.requested j := by
  rw [lowestPending_eq_none]
  refine forall₂_congr fun j hj => ?_
  rw [← s.getLsbD_pending hj, Bool.not_eq_true]

theorem State.lowestPending_pending_eq_some {s : State} {i : Fin 5} :
    lowestPending s.pending = some i ↔ s.requested i.val ∧ ∀ j < i.val, ¬ s.requested j := by
  rw [lowestPending_eq_some]
  refine and_congr (s.getLsbD_pending i.isLt) (forall₂_congr fun j hj => ?_)
  rw [← s.getLsbD_pending (by omega), Bool.not_eq_true]

/-! ## The check by its three cases -/

theorem State.interruptCheck_of_none {s : State} (h : lowestPending s.pending = none) :
    s.interruptCheck = { s with dispatchCycles := some 0 } := by
  rw [State.interruptCheck, h]

theorem State.interruptCheck_of_ime_clear {s : State} {i : Fin 5} (h : lowestPending s.pending = some i)
    (hime : s.ime = false) : s.interruptCheck = { s with halted := false, dispatchCycles := some 0 } := by
  rw [State.interruptCheck, h]; simp only [hime]; rfl

theorem State.interruptCheck_of_ime_set {s : State} {i : Fin 5} (h : lowestPending s.pending = some i)
    (hime : s.ime = true) : s.interruptCheck = { s.dispatch i with dispatchCycles := some 20 } := by
  rw [State.interruptCheck, h]; simp only [hime]; rfl

/-- With IME clear and the core not halted the check changes the count alone. -/
theorem State.interruptCheck_of_idle {s : State} (hime : s.ime = false) (hh : s.halted = false) :
    s.interruptCheck = { s with dispatchCycles := some 0 } := by
  rcases s.interruptCheck_cases with ⟨-, e⟩ | ⟨i, -, -, e⟩ | ⟨i, -, hi, -⟩
  · exact e
  · rw [e, ← hh]
  · exact absurd (hi.symm.trans hime) (by decide)

/-- A dispatch as one update of the state (R332). -/
theorem State.dispatch_eq (s : State) (i : Fin 5) :
    s.dispatch i = { s with
      ime := false
      halted := false
      sp := s.sp - 2#16
      pc := interruptVector i
      bus := (({ s.bus with mem := s.bus.mem.write addrIF (s.bus.mem.read addrIF &&& ~~~(1#8 <<< i.val)) } : Bus).write
        (s.sp - 1#16) (s.pc.extractLsb' 8 8)).write (s.sp - 2#16) (s.pc.extractLsb' 0 8) } := by
  simp only [State.dispatch, State.push16_eq]

end Sys2Proof.Machine

open Sys2Proof Sys2Proof.Machine

/-- Settles O51: the least enabled request is the one named, and its dispatch is `State.dispatch_eq`. -/
theorem interruptDispatch : Obligations.InterruptDispatch := by
  unfold Obligations.InterruptDispatch
  intro s i requested cleared hime hreq hleast
  rw [State.interruptCheck_of_ime_set (State.lowestPending_pending_eq_some.2 ⟨hreq, hleast⟩) hime, s.dispatch_eq]
  rfl

/-- Settles O52: the check's cases, told apart by whether some request is enabled. -/
theorem haltExit : Obligations.HaltExit := by
  unfold Obligations.HaltExit
  intro s requested
  refine ⟨fun hnone => State.interruptCheck_of_none (State.lowestPending_pending_eq_none.2 hnone), ?exit, ?clear⟩
  case exit =>
    rintro ⟨j, hj, hreq⟩
    rcases s.interruptCheck_cases with ⟨hnone, -⟩ | ⟨i, -, -, e⟩ | ⟨i, -, -, e⟩
    · exact absurd hreq (State.lowestPending_pending_eq_none.1 hnone j hj)
    · rw [e]
    · rw [e]; rfl
  case clear =>
    rintro hime ⟨j, hj, hreq⟩
    cases hp : lowestPending s.pending with
    | none => exact absurd hreq (State.lowestPending_pending_eq_none.1 hp j hj)
    | some i => exact State.interruptCheck_of_ime_clear hp hime

/-- Settles O53: a dispatch clears IME and `halted`, and with both clear no check does anything; without one the second
check finds the requests and IME it found before. -/
theorem oneDispatchPerBoundary : Obligations.OneDispatchPerBoundary := by
  unfold Obligations.OneDispatchPerBoundary
  intro s
  rcases s.interruptCheck_cases with ⟨hnone, e⟩ | ⟨i, -, hime, e⟩ | ⟨i, -, hime, e⟩ <;> rw [e]
  · exact ⟨by simp, State.interruptCheck_of_none hnone⟩
  · exact ⟨by simp [hime], State.interruptCheck_of_idle hime rfl⟩
  · exact ⟨by simp [hime], State.interruptCheck_of_idle rfl rfl⟩
end

section
/-! PROOFS. What instructions do to the run state and to the bus (10_state.md section 3, 20_memory.md section 4). Before them
one equation for the run state after a form, and the forms that stand for one instruction alone. -/

namespace Sys2Proof.Machine

/-! ## The run state after a form -/

/-- The run state (R31 to R35), whether a cycle count is given (R51), and the environment's moves: what most instructions
leave alone. -/
structure Control where
  ime      : Bool
  halted   : Bool
  stopped  : Bool
  fault    : Option FaultRecord
  counted  : Bool
  env      : List EnvMove
  envCycle : List EnvMove

def State.control (s : State) : Control :=
  ⟨s.ime, s.halted, s.stopped, s.fault, s.cycles.isSome, s.env, s.envCycle⟩

/-- The run state after an instruction that gives its count. -/
def State.counted (s : State) : Control := { s.control with counted := true }

/-- The run state after `raise` (R324): the record, and no count. -/
def State.faulted (s : State) (k : FaultKind) (byte : Byte) : Control :=
  { s.control with fault := some ⟨k, s.pc - 1#16, byte⟩, counted := false }

/-- The run state after a form. -/
def Form.control (s : State) : Form → Control
  | .disableInterrupts => { s.counted with ime := false }
  | .enableInterrupts => { s.counted with ime := true }
  | .reti => { s.counted with ime := true }
  | .halt => if s.ime then { s.counted with halted := true } else s.faulted .haltWithIMEClear 0x76#8
  | .stop => { s.counted with stopped := true }
  | .unassigned byte => s.faulted .unimplementedOpcode byte
  | _ => s.counted

theorem Form.run_control_of_ne (f : Form) (s : State) (hf : f ≠ .prefixCB) : (f.run s).control = f.control s := by
  cases f with
  | prefixCB => exact absurd rfl hf
  | halt => simp only [Form.run, Form.control, Sys2Proof.Machine.halt]; split <;> rfl
  | jumpIf cc t => simp only [Form.run, Sys2Proof.Machine.jumpIf]; split <;> rfl
  | jumpRelativeIf cc e => simp only [Form.run, Sys2Proof.Machine.jumpRelativeIf]; split <;> rfl
  | callIf cc t => simp only [Form.run, Sys2Proof.Machine.callIf]; split <;> rfl
  | retIf cc => simp only [Form.run, Sys2Proof.Machine.retIf]; split <;> rfl
  | loadRegReg r _ | loadRegImm r _ | loadRegAtHL r | incRegister r | decRegister r | shiftRegister _ r
  | resetRegisterBit _ r | setRegisterBit _ r => cases r <;> rfl
  | loadPairImm p _ | incPairBy _ p | popPair p => cases p <;> rfl
  | _ => rfl

/-- The extended page writes no run state. -/
theorem Form.control_extended (op2 : Byte) (s : State) : (formOf (decodeExtended op2)).control s = s.counted := by
  unfold decodeExtended
  generalize fieldX op2 = x
  generalize fieldY op2 = y
  generalize loc8 (fieldZ op2) = z
  fin_cases x <;> cases z <;>
    simp only [formOf_shiftReg, formOf_shiftAtHL, formOf_bitReg, formOf_bitAtHL, formOf_resReg, formOf_resAtHL,
      formOf_setReg, formOf_setAtHL] <;> rfl

/-- What a form does to the run state. -/
theorem Form.run_control (f : Form) (s : State) : (f.run s).control = f.control s := by
  by_cases hf : f = .prefixCB
  · subst hf
    have hne := formOf_decodeExtended_ne (s.read s.pc)
    rw [Form.run, prefixCB_eq_form, Form.run_control_of_ne _ _ hne, Form.control_extended]; rfl
  · exact f.run_control_of_ne s hf

/-! ## Forms that stand for one instruction alone -/

/-- The instruction of a form without operands that writes the run state, and of the prefix. -/
def Form.instr : Form → Option Instr
  | .disableInterrupts => some .di
  | .enableInterrupts => some .ei
  | .reti => some .reti
  | .halt => some .halt
  | .stop => some .stop
  | .prefixCB => some .prefixCB
  | _ => none

theorem eq_of_instr_formOf {i j : Instr} (h : (formOf i).instr = some j) : i = j := by
  cases i <;> cases h <;> rfl

theorem formOf_eq_iff {j : Instr} {f : Form} (hj : formOf j = f) (hf : f.instr = some j) (i : Instr) :
    formOf i = f ↔ i = j :=
  ⟨fun h => eq_of_instr_formOf (h ▸ hf), fun h => h ▸ hj⟩

theorem formOf_ne_prefixCB {i : Instr} (h : WellFormed i = true) : formOf i ≠ .prefixCB := fun hf =>
  bne_iff_ne.1 h ((formOf_eq_iff (j := .prefixCB) rfl rfl i).1 hf)

/-! ## IME, `halted` and `stopped` after a form -/

theorem Form.control_ime (f : Form) (s : State) :
    (f.control s).ime =
      if f = .disableInterrupts then false else if f = .enableInterrupts ∨ f = .reti then true else s.ime := by
  unfold Form.control
  split <;> simp_all [State.counted, State.faulted, State.control]
  split <;> simp_all

theorem Form.control_halted (f : Form) (s : State) :
    (f.control s).halted = (s.halted || (decide (f = .halt) && s.ime)) := by
  unfold Form.control
  split <;> simp_all [State.counted, State.faulted, State.control]
  split <;> simp_all

theorem Form.control_stopped (f : Form) (s : State) :
    (f.control s).stopped = (s.stopped || decide (f = .stop)) := by
  unfold Form.control
  split <;> simp_all [State.counted, State.faulted, State.control]
  split <;> simp_all

/-! ## Faults -/

/-- The fault a form raises, with the byte its record names (R321, R322). -/
def Form.fault (s : State) : Form → Option (FaultKind × Byte)
  | .unassigned byte => some (.unimplementedOpcode, byte)
  | .halt => if s.ime then none else some (.haltWithIMEClear, 0x76#8)
  | _ => none

theorem faultKindOf_eq_form (s : State) (i : Instr) : faultKindOf s i = ((formOf i).fault s).map Prod.fst := by
  cases i with
  | halt =>
    change (if s.ime then none else some FaultKind.haltWithIMEClear) = (Form.fault s .halt).map Prod.fst
    rw [Form.fault]; split <;> rfl
  | _ => rfl

/-- The byte in the record is the instruction's own. -/
theorem fault_byte_eq {s : State} {i : Instr} {k : FaultKind} {byte : Byte} (h : (formOf i).fault s = some (k, byte)) :
    (encode i).headD 0#8 = byte := by
  cases i with
  | halt =>
    change Form.fault s .halt = some (k, byte) at h
    rw [Form.fault] at h
    split at h <;> cases h
    rfl
  | _ => cases h <;> rfl

/-- A form gives its count, and leaves the fault register as it was, unless it raises a fault. -/
theorem Form.control_of_fault_eq_none {f : Form} {s : State} (h : f.fault s = none) :
    (f.control s).fault = s.fault ∧ (f.control s).counted = true := by
  unfold Form.control
  split <;> simp_all [Form.fault, State.counted, State.control]

theorem Form.control_of_fault_eq_some {f : Form} {s : State} {k : FaultKind} {byte : Byte}
    (h : f.fault s = some (k, byte)) : f.control s = s.faulted k byte := by
  unfold Form.fault at h
  split at h
  · cases h; rfl
  · split at h <;> cases h
    rename_i hime
    exact if_neg hime
  · cases h

end Sys2Proof.Machine

open Sys2Proof Sys2Proof.Machine

/-- Settles O42: an instruction's form writes the bytes listed for it. -/
theorem busChangesOnlyByListedWrites : Obligations.BusChangesOnlyByListedWrites := by
  unfold Obligations.BusChangesOnlyByListedWrites
  intro i s t hi h
  rw [exec_eq_form] at h
  injection h with h
  rw [← h, byteStores_eq_form, Form.run_bus _ _ (formOf_ne_prefixCB hi)]

/-- Settles O8: by the fault of the instruction's form. -/
theorem everyInstructionCompletes : Obligations.EveryInstructionCompletes := by
  unfold Obligations.EveryInstructionCompletes
  intro i s
  refine ⟨_, exec_eq_form i s, ?_⟩
  have hrun := (formOf i).run_control s
  rw [faultKindOf_eq_form]
  cases hf : (formOf i).fault s with
  | none =>
    obtain ⟨hfault, hcount⟩ := Form.control_of_fault_eq_none hf
    rw [← hrun] at hfault hcount
    exact ⟨hfault, hcount⟩
  | some p =>
    rw [Form.control_of_fault_eq_some hf] at hrun
    rw [Option.map_some, fault_byte_eq hf]
    have hcount : (Form.run s (formOf i)).cycles.isSome = false := congrArg Control.counted hrun
    exact ⟨congrArg Control.fault hrun, Option.isNone_iff_eq_none.1 (Option.isSome_eq_false_iff.1 hcount)⟩

/-- Settles O43: what the instruction's form writes of the run state, and which instruction has that form. -/
theorem runStateWriters : Obligations.RunStateWriters := by
  unfold Obligations.RunStateWriters
  intro i s t h
  rw [exec_eq_form] at h
  injection h with h
  have hrun := (formOf i).run_control s
  rw [h] at hrun
  have hdi := formOf_eq_iff (j := .di) (f := .disableInterrupts) rfl rfl i
  have hei := formOf_eq_iff (j := .ei) (f := .enableInterrupts) rfl rfl i
  have hreti := formOf_eq_iff (j := .reti) (f := .reti) rfl rfl i
  have hhalt := formOf_eq_iff (j := .halt) (f := .halt) rfl rfl i
  have hstop := formOf_eq_iff (j := .stop) (f := .stop) rfl rfl i
  have hime := (congrArg Control.ime hrun).trans (Form.control_ime _ s)
  have hhalted := (congrArg Control.halted hrun).trans (Form.control_halted _ s)
  have hstopped := (congrArg Control.stopped hrun).trans (Form.control_stopped _ s)
  simp only [hdi, hei, hreti, hhalt, hstop] at hime hhalted hstopped
  refine ⟨hime, hhalted, hstopped, ?_⟩
  have hfault : t.fault = _ := congrArg Control.fault hrun
  rw [faultKindOf_eq_form]
  cases hf : (formOf i).fault s with
  | none =>
    rw [(Form.control_of_fault_eq_none hf).1] at hfault
    exact ⟨fun _ => hfault, fun hne => absurd rfl hne, fun hs => hfault ▸ hs⟩
  | some p =>
    rw [Form.control_of_fault_eq_some hf] at hfault
    exact ⟨fun hnone => absurd hnone (by simp), fun _ => hfault ▸ Option.some_ne_none _,
      fun _ => hfault ▸ Option.some_ne_none _⟩
end

section
/-! PROOFS. The step (30_encoding.md section 1, 10_state.md section 3, 60_exceptions.md). Before them what a step leaves alone:
the cartridge, the cycle of environment moves, and around a halted tick nearly everything. -/

namespace Sys2Proof.Machine

/-! ## The prefix among the forms -/

/-- What holds of every form but the prefix, and of the prefix where it holds of the instruction it runs, holds of every
form. -/
theorem Form.run_induction {P : State → State → Prop} (hne : ∀ (f : Form) (s : State), f ≠ .prefixCB → P s (f.run s))
    (hp : ∀ s t, P (s.setPc (s.pc + 1#16)).freshReads t → P s t) (f : Form) (s : State) : P s (f.run s) := by
  by_cases hf : f = .prefixCB
  · subst hf
    rw [Form.run, prefixCB_eq_form]
    exact hp s _ (hne _ _ (formOf_decodeExtended_ne _))
  · exact hne f s hf

/-! ## The cartridge -/

/-- The image, its size and the cartridge type. -/
def Bus.cartridge (b : Bus) : Memory × Nat × CartType := (b.rom, b.romSize, b.cartType)

@[simp] theorem Bus.write_cartridge (b : Bus) (a : Word) (v : Byte) : (b.write a v).cartridge = b.cartridge := by
  simp [Bus.cartridge]

@[simp] theorem Bus.writes_cartridge (l : List (Word × Byte)) (b : Bus) : (b.writes l).cartridge = b.cartridge := by
  induction l generalizing b with
  | nil => rfl
  | cons p l ih => exact (ih _).trans (b.write_cartridge p.1 p.2)

theorem Form.run_cartridge (f : Form) (s : State) : (f.run s).bus.cartridge = s.bus.cartridge := by
  refine f.run_induction (P := fun s t => t.bus.cartridge = s.bus.cartridge) (fun f s hf => ?_) (fun _ _ h => h) s
  rw [f.run_bus s hf, Bus.writes_cartridge]

theorem State.dispatch_cartridge (s : State) (i : Fin 5) : (s.dispatch i).bus.cartridge = s.bus.cartridge := by
  rw [s.dispatch_eq, Bus.write_cartridge, Bus.write_cartridge]; rfl

@[simp] theorem State.environmentTurn_cartridge (s : State) : s.environmentTurn.bus.cartridge = s.bus.cartridge := rfl

@[simp] theorem State.freshReads_cartridge (s : State) : s.freshReads.bus.cartridge = s.bus.cartridge := rfl

@[simp] theorem State.beginStep_cartridge (s : State) : s.beginStep.bus.cartridge = s.bus.cartridge := rfl

@[simp] theorem State.haltedTick_cartridge (s : State) : s.haltedTick.bus.cartridge = s.bus.cartridge := rfl

@[simp] theorem State.afterFetch_cartridge (s : State) : s.afterFetch.bus.cartridge = s.bus.cartridge := rfl

@[simp] theorem State.interruptCheck_cartridge (s : State) : s.interruptCheck.bus.cartridge = s.bus.cartridge := by
  rcases s.interruptCheck_cases with ⟨-, e⟩ | ⟨i, -, -, e⟩ | ⟨i, -, -, e⟩ <;> rw [e]
  exact s.dispatch_cartridge i

theorem State.boundary_cartridge (s : State) : s.boundary.bus.cartridge = s.bus.cartridge := by
  unfold State.boundary
  split
  · rfl
  · simp only [State.freshReads_cartridge, State.interruptCheck_cartridge, State.environmentTurn_cartridge]

theorem step_cartridge {s t : State} (h : step s = .next t) : t.bus.cartridge = s.bus.cartridge := by
  obtain ⟨-, ⟨-, rfl⟩ | ⟨-, rfl⟩⟩ := step_cases h
  · rw [State.boundary_cartridge, State.haltedTick_cartridge, State.beginStep_cartridge]
  · rw [State.boundary_cartridge, Form.run_cartridge, State.afterFetch_cartridge, State.beginStep_cartridge]

/-! ## The environment's cycle -/

theorem Form.control_envCycle (f : Form) (s : State) : (f.control s).envCycle = s.envCycle := by
  unfold Form.control
  split
  case h_4 => split <;> rfl
  all_goals rfl

theorem Form.control_env (f : Form) (s : State) : (f.control s).env = s.env := by
  unfold Form.control
  split
  case h_4 => split <;> rfl
  all_goals rfl

theorem State.interruptCheck_envCycle (s : State) : s.interruptCheck.envCycle = s.envCycle := by
  rcases s.interruptCheck_cases with ⟨-, e⟩ | ⟨i, -, -, e⟩ | ⟨i, -, -, e⟩ <;> rw [e]
  exact s.dispatch_envCycle i

theorem State.boundary_envCycle (s : State) : s.boundary.envCycle = s.envCycle := by
  unfold State.boundary
  split
  · rfl
  · simp only [State.freshReads_envCycle, State.interruptCheck_envCycle, State.environmentTurn_envCycle]

theorem step_envCycle {s t : State} (h : step s = .next t) : t.envCycle = s.envCycle := by
  obtain ⟨-, ⟨-, rfl⟩ | ⟨-, rfl⟩⟩ := step_cases h
  · rw [State.boundary_envCycle, State.haltedTick_envCycle, State.beginStep_envCycle]
  · have hrun := congrArg Control.envCycle ((formOf s.beginStep.fetchInstr).run_control s.beginStep.afterFetch)
    rw [Form.control_envCycle] at hrun
    rw [State.boundary_envCycle]
    exact hrun.trans s.beginStep_envCycle

theorem step_keeps_ok {s t : State} (hs : s.Ok) (h : step s = .next t) : t.Ok := by
  obtain ⟨hstep, ⟨-, rfl⟩ | ⟨hhalted, rfl⟩⟩ := step_cases h
  · exact (hs.beginStep.tick 4).freshReads.boundary
  · obtain ⟨hfault, hstopped⟩ := noStep_eq_none.1 hstep
    have hrunning : s.beginStep.afterFetch.running := by
      simpa [State.running, hfault, hstopped] using hhalted
    exact ((formOf s.beginStep.fetchInstr).run_ok hs.beginStep.afterFetch hrunning).boundary

end Sys2Proof.Machine

open Sys2Proof Sys2Proof.Machine

/-- Settles O58: each part of a step keeps the invariant. -/
theorem stepKeepsInvariant : Obligations.StepKeepsInvariant := by
  unfold Obligations.StepKeepsInvariant
  exact fun _ _ => step_keeps_ok

/-- Settles O50: every change of the bus is a write of it or of storage, and neither reaches the cartridge. -/
theorem cartridgeNeverChanges : Obligations.CartridgeNeverChanges := by
  unfold Obligations.CartridgeNeverChanges
  intro s t h
  have hcart := step_cartridge h
  simpa [Bus.cartridge] using hcart

/-- Settles O55: the turn's move is the next given one, the cycle's first or the free one, and no part of a step writes the
cycle. -/
theorem environmentNeverRunsOut : Obligations.EnvironmentNeverRunsOut := by
  unfold Obligations.EnvironmentNeverRunsOut
  intro s
  refine ⟨fun mv rest h => ?given, fun mv rest h hc => ?cycle, fun h hc => ⟨Config.freeEnvMove s, ?free⟩,
    fun t => step_envCycle⟩
  case given => simp [State.environmentTurn, State.nextEnvMove, h]
  case cycle => simp [State.environmentTurn, State.nextEnvMove, h, hc]
  case free => simp [State.environmentTurn, State.nextEnvMove, h, hc]
end

section
/-! PROOFS. The step continued (30_encoding.md section 1, 48_daa_misc.md section 3, 49_unassigned.md): the instruction a step
runs, faults and STOP, the halted tick, and the environment's reach. -/

namespace Sys2Proof.Machine

/-- What a step gives when none exists (R110). -/
theorem step_of_fault {s : State} {r : FaultRecord} (h : s.fault = some r) : step s = .fault (.coreFaulted r) := by
  simp [step, State.noStep, h]

theorem step_of_stopped {s : State} (h : s.fault = none) (hs : s.stopped = true) : step s = .fault .coreStopped := by
  simp [step, State.noStep, h, hs]

theorem stepsSafely_iff (s : State) : s.StepsSafely ↔ s.fault = none ∧ s.stopped = false := by
  constructor
  · rintro ⟨t, h⟩
    exact noStep_eq_none.1 (step_cases h).1
  · intro h
    have hn := noStep_eq_none.2 h
    cases hh : s.beginStep.halted with
    | true => exact ⟨_, step_halted hn hh⟩
    | false => exact ⟨_, step_running hn hh⟩

/-- Three bytes decode to what is read from them, of the length of the first (R110, R126). -/
theorem decode_three (b0 b1 b2 : Byte) : decode [b0, b1, b2] = .ok (decodeBytes b0 b1 b2, lengthOf b0) := rfl

theorem exec_unassigned {i : Instr} {byte : Byte} (h : formOf i = .unassigned byte) (s : State) :
    exec i s = .next { s with fault := some ⟨.unimplementedOpcode, s.pc - 1#16, byte⟩, cycles := none } :=
  exec_of_formOf h s

/-- The form of an unassigned byte's instruction. -/
theorem formOf_decodeBytes_unassigned {b0 : Byte} (h : b0 ∈ unassignedInstrs.map fun i => (encode i).headD 0#8)
    (b1 b2 : Byte) : formOf (decodeBytes b0 b1 b2) = .unassigned b0 := by
  have hform : ∀ i ∈ unassignedInstrs, formOf i = .unassigned ((encode i).headD 0#8) := by decide
  have := hform _ ((decodeBytes_mem_unassignedInstrs b0 b1 b2).2 h)
  rwa [headD_encode_decodeBytes] at this

theorem lengthOf_unassigned {b0 : Byte} (h : b0 ∈ unassignedInstrs.map fun i => (encode i).headD 0#8) :
    lengthOf b0 = 1 := by
  obtain ⟨i, hi, rfl⟩ := List.mem_map.1 h
  exact (encode_of_mem_unassignedInstrs i hi).2.2

theorem State.getReg8_raiseFault (s : State) (k : FaultKind) (p : Word) (v : Byte) (r : Reg8) :
    (s.raiseFault k p v).getReg8 r = s.getReg8 r := by cases r <;> rfl

theorem State.getReg8_afterFetch (s : State) (r : Reg8) : s.afterFetch.getReg8 r = s.getReg8 r := by cases r <;> rfl

/-- A faulted core has no boundary (R324). -/
theorem State.boundary_of_fault {s : State} (h : s.fault ≠ none) : s.boundary = s := by
  unfold State.boundary State.noStep
  cases hf : s.fault with
  | none => exact absurd hf h
  | some r => rfl

theorem State.boundary_of_running {s : State} (h : s.fault = none) (hs : s.stopped = false) :
    s.boundary = s.environmentTurn.freshReads.interruptCheck.freshReads := by
  unfold State.boundary
  rw [noStep_eq_none.2 ⟨h, hs⟩]

/-! ## The check -/

theorem State.getReg8_dispatch (s : State) (i : Fin 5) (r : Reg8) : (s.dispatch i).getReg8 r = s.getReg8 r := by
  cases r <;> simp [State.getReg8, State.h, State.l]

/-- No check changes an 8-bit register, a flag, the step's own count, `stopped` or the fault register. -/
theorem State.interruptCheck_frame (s : State) :
    (∀ r, s.interruptCheck.getReg8 r = s.getReg8 r) ∧ s.interruptCheck.flags = s.flags ∧
    s.interruptCheck.cycles = s.cycles ∧ s.interruptCheck.stopped = s.stopped ∧ s.interruptCheck.fault = s.fault := by
  rcases s.interruptCheck_cases with ⟨-, e⟩ | ⟨i, -, -, e⟩ | ⟨i, -, -, e⟩ <;> rw [e]
  · exact ⟨fun r => by cases r <;> rfl, rfl, rfl, rfl, rfl⟩
  · exact ⟨fun r => by cases r <;> rfl, rfl, rfl, rfl, rfl⟩
  · exact ⟨fun r => (by cases r <;> rfl : _ = (s.dispatch i).getReg8 r).trans (s.getReg8_dispatch i r), rfl, rfl, rfl, rfl⟩

/-- A check that reports 0 leaves PC, SP, IME and the bus alone, and `halted` too where IME is set. -/
theorem State.interruptCheck_of_zero {s : State} (h : s.interruptCheck.dispatchCycles = some 0) :
    s.interruptCheck.pc = s.pc ∧ s.interruptCheck.sp = s.sp ∧ s.interruptCheck.ime = s.ime ∧
    s.interruptCheck.bus = s.bus ∧ (s.ime = true → s.interruptCheck.halted = s.halted) := by
  rcases s.interruptCheck_cases with ⟨-, e⟩ | ⟨i, -, hime, e⟩ | ⟨i, -, -, e⟩ <;> rw [e] at h ⊢
  · exact ⟨rfl, rfl, rfl, rfl, fun _ => rfl⟩
  · exact ⟨rfl, rfl, rfl, rfl, fun hset => absurd (hset.symm.trans hime) (by decide)⟩
  · exact absurd h (by simp)

/-- A check that reports 20 is a dispatch (R332). -/
theorem State.interruptCheck_of_twenty {s : State} (h : s.interruptCheck.dispatchCycles = some 20) :
    s.ime = true ∧ s.interruptCheck.ime = false ∧ s.interruptCheck.halted = false ∧
    s.interruptCheck.sp = s.sp - 2#16 ∧ ∃ i, s.interruptCheck.pc = interruptVector i := by
  rcases s.interruptCheck_cases with ⟨-, e⟩ | ⟨i, -, -, e⟩ | ⟨i, -, hime, e⟩ <;> rw [e] at h ⊢
  · exact absurd h (by simp)
  · exact absurd h (by simp)
  · exact ⟨hime, rfl, rfl, sub_sub s.sp 1#16 1#16, i, rfl⟩

theorem State.interruptCheck_dispatchCycles (s : State) :
    s.interruptCheck.dispatchCycles = some 0 ∨ s.interruptCheck.dispatchCycles = some 20 := by
  rcases s.interruptCheck_cases with ⟨-, e⟩ | ⟨i, -, -, e⟩ | ⟨i, -, -, e⟩ <;> rw [e] <;> simp

/-! ## The round of a halted core -/

/-- The state that the check of a halted core's round sees. -/
def State.haltedRound (s : State) : State := s.beginStep.haltedTick.environmentTurn.freshReads

theorem step_of_halted {s : State} (hf : s.fault = none) (hs : s.stopped = false) (hh : s.halted = true) :
    step s = .next s.haltedRound.interruptCheck.freshReads := by
  rw [step_halted (noStep_eq_none.2 ⟨hf, hs⟩) (s.beginStep_halted.trans hh),
    State.boundary_of_running (by simp [hf]) (by simp [hs]), State.haltedRound]

@[simp] theorem State.haltedRound_getReg8 (s : State) (r : Reg8) : s.haltedRound.getReg8 r = s.getReg8 r := by
  simp [State.haltedRound]
@[simp] theorem State.haltedRound_flags (s : State) : s.haltedRound.flags = s.flags := by
  simp [State.haltedRound, State.flags]
@[simp] theorem State.haltedRound_sp (s : State) : s.haltedRound.sp = s.sp := by simp [State.haltedRound]
@[simp] theorem State.haltedRound_pc (s : State) : s.haltedRound.pc = s.pc := by simp [State.haltedRound]
@[simp] theorem State.haltedRound_ime (s : State) : s.haltedRound.ime = s.ime := by simp [State.haltedRound]
@[simp] theorem State.haltedRound_halted (s : State) : s.haltedRound.halted = s.halted := by simp [State.haltedRound]
@[simp] theorem State.haltedRound_stopped (s : State) : s.haltedRound.stopped = s.stopped := by simp [State.haltedRound]
@[simp] theorem State.haltedRound_fault (s : State) : s.haltedRound.fault = s.fault := by simp [State.haltedRound]
@[simp] theorem State.haltedRound_cycles (s : State) : s.haltedRound.cycles = some 4 := by simp [State.haltedRound]

/-- The bus is the one before the round but for storage in the environment's range, the joypad output and the counter. -/
theorem State.haltedRound_bus (s : State) :
    ∃ m : Memory, s.haltedRound.bus =
        { s.bus with mem := m, joypadOut := [], freeReads := s.bus.freeReads + 1 + 1 } ∧
      ∀ k, k < 0xFF00 ∨ 0xFF7F < k → m.read k = s.bus.mem.read k := by
  obtain ⟨m, hm, hread⟩ := s.beginStep_bus
  obtain ⟨m', hm', hread'⟩ := s.beginStep.haltedTick.environmentTurn_bus
  refine ⟨m', ?_, fun k hk => ?_⟩
  · rw [State.haltedRound, State.freshReads_bus, hm', State.haltedTick_bus, hm]
  · rw [hread' k hk, State.haltedTick_bus, hm]; exact hread k hk

end Sys2Proof.Machine

open Sys2Proof Sys2Proof.Machine

/-- Settles O7: a step is refused for a fault first, then for STOP. -/
theorem stepsExactlyWhenNotStuck : Obligations.StepsExactlyWhenNotStuck := by
  unfold Obligations.StepsExactlyWhenNotStuck
  exact fun s => ⟨stepsSafely_iff s, fun _ => step_of_fault, step_of_stopped⟩

/-- Settles O5: the fetch reads the three bytes that were decoded. -/
theorem stepRunsDecodedInstruction : Obligations.StepRunsDecodedInstruction := by
  unfold Obligations.StepRunsDecodedInstruction
  intro s i n hf hs hh _ hdecode
  rw [decode_three] at hdecode
  injection hdecode with hdecode
  injection hdecode with hi hn
  subst hi hn
  rw [step_running (noStep_eq_none.2 ⟨hf, hs⟩) (s.beginStep_halted.trans hh)]
  simp only [exec_eq_form]; rfl

/-- Settles O9: the fetched instruction is the byte's own, of length 1; a faulted core has no boundary and no step. -/
theorem unassignedByteStopsTheCore : Obligations.UnassignedByteStopsTheCore := by
  unfold Obligations.UnassignedByteStopsTheCore
  intro s b hf hs hh hb hmem
  have hbyte : s.beginStep.read s.beginStep.pc = b := by rw [s.beginStep_pc, hb]
  have hform : formOf s.beginStep.fetchInstr = .unassigned b := by
    rw [State.fetchInstr, hbyte]; exact formOf_decodeBytes_unassigned hmem _ _
  have hpc : s.beginStep.afterFetch.pc = s.pc + 1#16 := by
    rw [State.afterFetch_pc, State.fetchLength, hbyte, lengthOf_unassigned hmem, s.beginStep_pc]
  have hstart : s.beginStep.afterFetch.pc - 1#16 = s.pc := by rw [hpc]; exact add_sub_cancel_right s.pc 1#16
  have hfault : (Sys2Proof.Machine.unassigned b s.beginStep.afterFetch).fault = some ⟨.unimplementedOpcode, s.pc, b⟩ := by
    rw [Sys2Proof.Machine.unassigned, State.raiseFault_fault, hstart]
  have hstep : step s = .next (Sys2Proof.Machine.unassigned b s.beginStep.afterFetch) := by
    rw [step_running (noStep_eq_none.2 ⟨hf, hs⟩) (s.beginStep_halted.trans hh), hform]
    exact congrArg _ (State.boundary_of_fault (Option.some_ne_none _))
  refine ⟨_, hstep, hfault, hpc, rfl, rfl, fun r => ?reg8, ?flags, ?_, ?_, ?_, ?_, ?_, step_of_fault hfault⟩
  case reg8 => rw [Sys2Proof.Machine.unassigned, State.getReg8_raiseFault, State.getReg8_afterFetch, s.beginStep_getReg8]
  case flags => simp [Sys2Proof.Machine.unassigned, State.flags]
  all_goals simp [Sys2Proof.Machine.unassigned, hh, hs]

/-- Settles O33: each is a write of the run state, then the count; RETI pops PC as well. -/
theorem interruptEnableAndStop : Obligations.InterruptEnableAndStop := by
  unfold Obligations.InterruptEnableAndStop
  exact fun s => ⟨exec_of_formOf rfl s, exec_of_formOf rfl s, exec_of_formOf rfl s, exec_of_formOf rfl s⟩

/-- Settles O34: HALT's two branches. -/
theorem halt : Obligations.Halt := by
  unfold Obligations.Halt
  intro s
  exact ⟨fun h => (exec_of_formOf rfl s).trans (congrArg _ (if_pos h)),
    fun h => (exec_of_formOf rfl s).trans (congrArg _ (if_neg (by simp [h])))⟩

/-- Settles O35: one lemma for the eleven bytes. -/
theorem unassignedInstructions : Obligations.UnassignedInstructions := by
  unfold Obligations.UnassignedInstructions
  intro s raised
  have hraised {i : Instr} {byte : Byte} (h : formOf i = .unassigned byte) : exec i s = raised byte :=
    exec_unassigned h s
  exact ⟨hraised rfl, hraised rfl, hraised rfl, hraised rfl, hraised rfl, hraised rfl, hraised rfl, hraised rfl,
    hraised rfl, hraised rfl, hraised rfl⟩

/-- Settles O54: the turn writes storage alone, outside IF only by bytes of the move's own range, and IF by setting request
bits. -/
theorem environmentReach : Obligations.EnvironmentReach := by
  unfold Obligations.EnvironmentReach
  intro s hwf t
  have hif : t.read 0xFF0F#16 = s.read 0xFF0F#16 ||| s.nextEnvMove.1.requests.setWidth 8 := by
    rw [State.read, Bus.read_high _ (by decide), State.read, Bus.read_high _ (by decide)]
    change Memory.read (Memory.write _ addrIF _) addrIF = s.bus.mem.read addrIF ||| _
    rw [Memory.read_write_self (wf_envWrites _ _ hwf), read_envWrites_of_outside _ _ (.inr (.inr rfl))]
  refine ⟨s.environmentTurn_getReg8, rfl, rfl, rfl, rfl, rfl, rfl, rfl, rfl, rfl, rfl, fun a => s.read_environmentTurn a,
    fun j hj => ?_, fun j hj => ?_⟩
  · rw [hif, BitVec.getLsbD_or, hj, Bool.true_or]
  · rw [hif, BitVec.getLsbD_or, BitVec.getLsbD_setWidth, BitVec.getLsbD_of_ge _ _ hj, Bool.and_false, Bool.or_false]

/-- Settles O6: the check sees the state before the round but for the outputs and, on the bus, what `State.haltedRound_bus`
names; what it does is told apart by its count. -/
theorem haltedTick : Obligations.HaltedTick := by
  unfold Obligations.HaltedTick
  intro s hf hs hh
  obtain ⟨m, hbus, hmem⟩ := s.haltedRound_bus
  obtain ⟨hreg, hflags, hcycles, hstopped, hfault⟩ := s.haltedRound.interruptCheck_frame
  refine ⟨_, step_of_halted hf hs hh, hcycles.trans s.haltedRound_cycles, fun r => ?reg8,
    hflags.trans s.haltedRound_flags, hstopped.trans (by simp [hs]), hfault.trans (by simp [hf]),
    State.interruptCheck_dispatchCycles _, fun hzero => ?zero, fun htwenty => ?twenty⟩
  case reg8 => rw [State.freshReads_getReg8, hreg, s.haltedRound_getReg8]
  case zero =>
    obtain ⟨hpc, hsp, hime, hcheck, hhalted⟩ := State.interruptCheck_of_zero hzero
    have hb : s.haltedRound.interruptCheck.freshReads.bus =
        { s.bus with mem := m, joypadOut := [], freeReads := s.bus.freeReads + 1 + 1 + 1 } := by
      rw [State.freshReads_bus, hcheck, hbus]
    refine ⟨hpc.trans s.haltedRound_pc, hsp.trans s.haltedRound_sp, hime.trans s.haltedRound_ime, ?_, ?_, ?_, ?_, ?_, ?_,
      ?_, ?_, ?_, ?_, ?_, ?_, fun a ha hp => ?read, fun h => ?halted⟩
    case halted => exact (hhalted (s.haltedRound_ime.trans h)).trans (s.haltedRound_halted.trans hh)
    case read =>
      rw [State.read, hb]
      exact Bus.read_congr_present _ _ _ rfl rfl rfl hp fun _ => hmem _ (storageKey_outside a ha)
    all_goals rw [hb]
  case twenty =>
    obtain ⟨hset, hime, hhalted, hsp, i, hpc⟩ := State.interruptCheck_of_twenty htwenty
    exact ⟨s.haltedRound_ime.symm.trans hset, hime, hhalted, hsp.trans (by rw [s.haltedRound_sp]), i, hpc⟩
end

section
/-! PROOFS. The cartridge load (70_reset_and_hazards.md section 1). Before them what a load puts in the byte stores. -/

namespace Sys2Proof.Machine

/-! ## What a load stores -/

theorem read_resetStorage (resetMem : Memory) (k : Nat) :
    (resetStorage resetMem).read k =
      if isStorageKey k ∧ k ≠ addrIF ∧ k ≠ addrIE then resetMem.read k else Memory.unlisted := by
  rw [resetStorage, read_cellsWhere]
  simp only [decide_eq_true_eq]

theorem read_resetStorage_of_excluded (resetMem : Memory) {k : Nat} (h : k = addrIF ∨ k = addrIE) :
    (resetStorage resetMem).read k = 0x00#8 := by
  rw [read_resetStorage, if_neg (by tauto)]; rfl

theorem resetStorage_keys (resetMem : Memory) : ∀ x ∈ resetStorage resetMem, isStorageKey x.1 := by
  intro x hx
  have := mem_cellsWhere hx
  exact (of_decide_eq_true this).1

/-- The storage of a bus right after reset, image and RESET_MEM in canonical form. -/
theorem Bus.Ok.reset {size : Nat} {rom mem : Memory} (t : CartType) (hsize : size % 0x4000 = 0 ∧ 0x8000 ≤ size)
    (hromWf : rom.wf) (hrom : ∀ x ∈ rom, x.1 < size) (hmemWf : mem.wf) (hmem : ∀ x ∈ mem, isStorageKey x.1)
    (hie : mem.read addrIE = 0x00#8) (hif : mem.read addrIF = 0x00#8) :
    ({ Bus.reset with cartType := t, romSize := size, rom := rom, mem := mem } : Bus).Ok where
  storage := ⟨hmemWf, hromWf, hmem, hrom⟩
  image := ⟨hsize.1, hsize.2⟩
  bank := ⟨(by decide : 1#5 ≠ 0#5), fun _ => rfl, fun _ => rfl⟩
  masks := ⟨by rw [hie]; decide, by rw [hif]; decide⟩
  marks := ⟨List.Pairwise.nil, fun k hk => absurd hk List.not_mem_nil⟩

theorem State.reset_ok : State.reset.Ok where
  bus := Bus.Ok.reset .none (by decide) Memory.wf_nil (by simp) Memory.wf_nil (by simp) rfl rfl
  run := ⟨by decide, by decide, by decide⟩

/-- The state of a load that is not refused. -/
def State.loaded (c : Cartridge) (resetMem : Memory) (env envCycle : List EnvMove) : State :=
  { State.reset with
    fault := if c.typeByte = 0x00#8 ∨ c.typeByte = 0x01#8 then none
      else some ⟨.unsupportedCartridgeType, 0x0147#16, c.typeByte⟩
    bus := { Bus.reset with
      cartType := if c.typeByte = 0x01#8 then .mbc1 else .none
      romSize := c.size
      rom := cellsWhere (fun k => decide (k < c.size)) c.bytes
      mem := resetStorage resetMem }
    env := env
    envCycle := envCycle }

theorem State.load_eq (c : Cartridge) (resetMem : Memory) (env envCycle : List EnvMove) :
    State.load c resetMem env envCycle = if c.sizeOk then some (State.loaded c resetMem env envCycle) else none := rfl

theorem State.loaded_ok {c : Cartridge} (h : c.sizeOk) (resetMem : Memory) (env envCycle : List EnvMove) :
    (State.loaded c resetMem env envCycle).Ok where
  bus := Bus.Ok.reset _ h (wf_cellsWhere _ _) (fun _ hx => of_decide_eq_true (mem_cellsWhere hx)) (wf_cellsWhere _ _)
    (resetStorage_keys resetMem) (read_resetStorage_of_excluded resetMem (.inr rfl))
    (read_resetStorage_of_excluded resetMem (.inl rfl))
  run := ⟨fun hh => absurd hh (by simp [State.loaded, State.reset]),
    fun hh => absurd hh (by simp [State.loaded, State.reset]),
    fun hh => absurd hh (by simp [State.loaded, State.reset])⟩

/-- Whatever the cartridge type, bank 1 is shown after a load, and it is in the image. -/
theorem State.loaded_read_rom {c : Cartridge} (h : c.sizeOk) (resetMem : Memory) (env envCycle : List EnvMove) {a : Word}
    (ha : a.toNat < 0x8000) : (State.loaded c resetMem env envCycle).read a = c.bytes.read a.toNat := by
  obtain ⟨-, hlarge⟩ := h
  have hbank : (State.loaded c resetMem env envCycle).bus.bank = 1 := by
    simp only [State.loaded, Bus.bank]
    split <;> rfl
  have hrom : (State.loaded c resetMem env envCycle).bus.rom.read a.toNat = c.bytes.read a.toNat :=
    (read_cellsWhere _ _ _).trans (if_pos (decide_eq_true (by omega)))
  by_cases hlow : a.toNat ≤ 0x3FFF
  · rw [State.read, Bus.read_rom0 _ hlow, hrom]
  · have hsize : (State.loaded c resetMem env envCycle).bus.romSize = c.size := rfl
    have hoff : 1 * 0x4000 + (a.toNat - 0x4000) = a.toNat := by omega
    rw [State.read, Bus.read_bank _ (by omega) (by omega) (by rw [hbank, hsize]; omega), Bus.bankOffset_eq, hbank, hoff,
      hrom]

/-- No echo address has its storage byte at or above 0xFE00. -/
theorem toNat_eq_of_storageKey_eq {a : Word} {k : Nat} (hk : 0xFE00 ≤ k) (h : storageKey a = k) : a.toNat = k := by
  unfold storageKey at h
  split at h <;> omega

theorem State.loaded_read_high (c : Cartridge) (resetMem : Memory) (env envCycle : List EnvMove) {a : Word}
    (ha : 0x8000 ≤ a.toNat) : (State.loaded c resetMem env envCycle).read a =
      if storageKey a ≠ addrIF ∧ storageKey a ≠ addrIE then resetMem.read (storageKey a) else 0x00#8 := by
  rw [State.read, Bus.read_high _ ha]
  exact (read_resetStorage _ _).trans (if_congr (and_iff_right (storageKey_isStorageKey ha)) rfl rfl)

end Sys2Proof.Machine

open Sys2Proof Sys2Proof.Machine

/-- Settles O57: the stores of a load are canonical, with the two masked registers left out. -/
theorem initialStatesMeetInvariant : Obligations.InitialStatesMeetInvariant := by
  unfold Obligations.InitialStatesMeetInvariant
  refine ⟨State.reset_ok, fun c resetMem env envCycle s h => ?_⟩
  rw [State.load_eq] at h
  split at h
  case isTrue hsize => exact Option.some.inj h ▸ State.loaded_ok hsize resetMem env envCycle
  case isFalse => cases h

/-- Settles O56: the registers are those of reset; every read below 0x8000 is of the image, every other one of RESET_MEM but
at IF and IE. -/
theorem cartridgeLoad : Obligations.CartridgeLoad := by
  unfold Obligations.CartridgeLoad
  intro c resetMem env envCycle
  obtain ⟨hf, hbc, hde⟩ : State.reset.f = 0xB0#8 ∧ State.reset.bc = 0x0013#16 ∧ State.reset.de = 0x00D8#16 := by decide
  refine ⟨fun h => (State.load_eq ..).trans (if_neg h), fun h =>
    ⟨_, (State.load_eq ..).trans (if_pos h), rfl, rfl, rfl, hf, hbc, hde, rfl, rfl, rfl, rfl, rfl, rfl,
      ?enable, ?flag, rfl, rfl, fun ht => ?none, fun ht => ?mbc1, fun h0 h1 => ?fault,
      fun a => State.loaded_read_rom h resetMem env envCycle, fun a ha hie hif => ?mem⟩⟩
  case enable => exact State.loaded_read_high _ _ _ _ (by decide)
  case flag => exact State.loaded_read_high _ _ _ _ (by decide)
  case none => exact ⟨if_pos (.inl ht), if_neg (by rw [ht]; decide)⟩
  case mbc1 => exact ⟨if_pos (.inr ht), if_pos ht⟩
  case fault => exact if_neg (by simp [h0, h1])
  case mem =>
    have hkey {k : Nat} (hk : 0xFE00 ≤ k) (hne : a.toNat ≠ k) : storageKey a ≠ k :=
      fun h => hne (toNat_eq_of_storageKey_eq hk h)
    rw [State.loaded_read_high _ _ _ _ ha, if_pos ⟨hkey (by decide) hif, hkey (by decide) hie⟩]
end

section
/-! PROOFS. Placing the bytes that the next step fetches (30_encoding.md section 1; log 14). Before them what a placed byte
changes in what is read, and what an environment's move spares. -/

namespace Sys2Proof.Machine

/-! ## Bytes that a read shows -/

/-- A read of `a` shows `v`, and from a store: not as the free value of an absent bank (R64). -/
structure Bus.Shows (b : Bus) (a : Word) (v : Byte) : Prop where
  rom0 : a.toNat ≤ 0x3FFF → b.rom.read a.toNat = v
  bank : 0x4000 ≤ a.toNat → a.toNat ≤ 0x7FFF → b.bank * 0x4000 < b.romSize ∧ b.rom.read (b.bankOffset a) = v
  high : 0x8000 ≤ a.toNat → b.mem.read (storageKey a) = v

theorem Bus.Shows.read_eq {b : Bus} {a : Word} {v : Byte} (h : b.Shows a v) : b.read a = v := by
  rcases Nat.lt_or_ge a.toNat 0x4000 with ha | ha
  · exact (b.read_rom0 (by omega)).trans (h.rom0 (by omega))
  · rcases Nat.lt_or_ge a.toNat 0x8000 with ha' | ha'
    · obtain ⟨hin, hread⟩ := h.bank ha (by omega)
      exact (b.read_bank ha (by omega) hin).trans hread
    · exact (b.read_high ha').trans (h.high ha')

/-- What placing a byte needs: canonical stores, and another bank than the one at 0x0000..0x3FFF. -/
structure Bus.Placeable (b : Bus) : Prop where
  rom_wf   : b.rom.wf
  mem_wf   : b.mem.wf
  bank_pos : 1 ≤ b.bank

theorem Bus.Ok.placeable {b : Bus} (h : b.Ok) : b.Placeable where
  rom_wf := h.storage.rom_wf
  mem_wf := h.storage.mem_wf
  bank_pos := by
    unfold Bus.bank
    split
    · exact Nat.pos_of_ne_zero fun h0 => h.bank.bank_nonzero (BitVec.eq_of_toNat_eq h0)
    · exact le_rfl

theorem State.placeByte_pc (s : State) (a : Word) (v : Byte) : (s.placeByte a v).pc = s.pc := by
  unfold State.placeByte
  split
  · rfl
  · split <;> rfl

theorem State.placeByte_placeable {s : State} (h : s.bus.Placeable) (a : Word) (v : Byte) :
    (s.placeByte a v).bus.Placeable := by
  unfold State.placeByte
  split
  · exact ⟨Memory.wf_write h.rom_wf _ _, h.mem_wf, h.bank_pos⟩
  · split
    · exact ⟨Memory.wf_write h.rom_wf _ _, h.mem_wf, h.bank_pos⟩
    · exact ⟨h.rom_wf, Memory.wf_write h.mem_wf _ _, h.bank_pos⟩

theorem State.placeByte_shows_self {s : State} (h : s.bus.Placeable) (a : Word) (v : Byte) :
    (s.placeByte a v).bus.Shows a v := by
  unfold State.placeByte
  split
  case isTrue hlow =>
    exact ⟨fun _ => Memory.read_write_self h.rom_wf _ _, fun ha => by omega, fun ha => by omega⟩
  case isFalse hlow =>
    split
    case isTrue hbank =>
      exact ⟨fun ha => by omega,
        fun _ _ => ⟨lt_max_of_lt_right (Nat.lt_add_of_pos_right (by decide)), Memory.read_write_self h.rom_wf _ _⟩,
        fun ha => by omega⟩
    case isFalse hbank =>
      exact ⟨fun ha => by omega, fun _ ha => by omega, fun _ => Memory.read_write_self h.mem_wf _ _⟩

/-- Two addresses of the switchable bank differ in their image offsets, and none of them lies in bank 0. -/
theorem State.placeByte_shows_of_ne {s : State} (h : s.bus.Placeable) {a x : Word} (v : Byte) {w : Byte}
    (hx : s.bus.Shows x w) (hne : x.toNat ≠ a.toNat) (hkey : storageKey x ≠ storageKey a) :
    (s.placeByte a v).bus.Shows x w := by
  have hbank := h.bank_pos
  have hoff (y : Word) : 0x4000 ≤ s.bus.bankOffset y := by rw [Bus.bankOffset_eq]; omega
  unfold State.placeByte
  split
  case isTrue hlow =>
    have ha := hoff x
    refine ⟨fun hx' => ?_, fun h1 h2 => ⟨(hx.bank h1 h2).1, ?_⟩, hx.high⟩
    · exact (Memory.read_write_of_ne _ _ hne).trans (hx.rom0 hx')
    · exact (Memory.read_write_of_ne _ _ (show s.bus.bankOffset x ≠ a.toNat by omega)).trans (hx.bank h1 h2).2
  case isFalse hlow =>
    split
    case isTrue hmid =>
      have ha := hoff a
      refine ⟨fun hx' => ?_, fun h1 h2 => ⟨lt_max_of_lt_left (hx.bank h1 h2).1, ?_⟩, hx.high⟩
      · exact (Memory.read_write_of_ne _ _ (by omega)).trans (hx.rom0 hx')
      · refine (Memory.read_write_of_ne _ _ ?_).trans (hx.bank h1 h2).2
        rw [Bus.bankOffset_eq, Bus.bankOffset_eq]; omega
    case isFalse hhigh =>
      exact ⟨hx.rom0, hx.bank, fun h1 => (Memory.read_write_of_ne _ _ hkey).trans (hx.high h1)⟩

/-- Different addresses share a storage byte only 0x2000 apart (R85). -/
theorem storageKey_ne {a x : Word} (hne : x.toNat ≠ a.toNat) (h1 : x.toNat ≠ a.toNat + 0x2000)
    (h2 : a.toNat ≠ x.toNat + 0x2000) : storageKey x ≠ storageKey a := by
  unfold storageKey
  split <;> split <;> omega

/-! ## What an environment's move spares -/

theorem read_envWrites_of_not_mem {l : List (BitVec 7 × Byte)} {k : Nat} (h : ∀ x ∈ l, 0xFF00 + x.1.toNat ≠ k)
    (m : Memory) : (envWrites m l).read k = m.read k := by
  induction l generalizing m with
  | nil => rfl
  | cons x l ih =>
    have hl := ih fun y hy => h y (List.mem_cons_of_mem _ hy)
    rw [envWrites, hl]
    split
    · rfl
    · exact Memory.read_write_of_ne _ _ (h x List.mem_cons_self).symm

/-- A move leaves alone the addresses it was made to spare. -/
theorem State.applyEnv_sparing_read {s : State} (hwf : s.bus.mem.wf) (mv : EnvMove) {keys : List Nat} {k : Nat}
    (hk : k ∈ keys) : (s.applyEnv (mv.sparing keys)).bus.mem.read k = s.bus.mem.read k := by
  have hwrites : (envWrites s.bus.mem (mv.sparing keys).writes).read k = s.bus.mem.read k := by
    refine read_envWrites_of_not_mem (fun x hx e => ?_) _
    have := (List.mem_filter.1 hx).2
    rw [e] at this
    simp [hk] at this
  rw [State.applyEnv_bus]
  by_cases hif : k = addrIF
  · subst hif
    rw [Memory.read_write_self (wf_envWrites _ _ hwf), hwrites]
    simp [EnvMove.sparing, hk]
  · rw [Memory.read_write_of_ne _ _ hif, hwrites]

/-- An echo address's storage byte is out of the environment's reach. -/
theorem State.applyEnv_sparing_shows {s : State} (hwf : s.bus.mem.wf) (mv : EnvMove) {keys : List Nat} {a : Word} {v : Byte}
    (hk : a.toNat ∈ keys) (h : s.bus.Shows a v) : (s.applyEnv (mv.sparing keys)).bus.Shows a v := by
  refine ⟨h.rom0, h.bank, fun ha => Eq.trans ?_ (h.high ha)⟩
  by_cases hecho : 0xE000 ≤ a.toNat ∧ a.toNat ≤ 0xFDFF
  · have hkey := storageKey_echo hecho.1 hecho.2
    rw [State.applyEnv_bus, Memory.read_write_of_ne _ _ (by rw [hkey, addrIF]; omega),
      read_envWrites_of_outside _ _ (by omega)]
  · exact s.applyEnv_sparing_read hwf mv (storageKey_eq_self hecho ▸ hk)

/-! ## The placed bytes -/

/-- The three bytes placed are those shown at the start of the step. -/
theorem State.withBytesAtPc_shows {s : State} (h : s.Ok) (b0 b1 b2 : Byte) :
    (s.withBytesAtPc b0 b1 b2).beginStep.bus.Shows s.pc b0 ∧
    (s.withBytesAtPc b0 b1 b2).beginStep.bus.Shows (s.pc + 1#16) b1 ∧
    (s.withBytesAtPc b0 b1 b2).beginStep.bus.Shows (s.pc + 2#16) b2 := by
  have hpc := s.pc.isLt
  have h1 : (s.pc + 1#16).toNat = (s.pc.toNat + 1) % 65536 := BitVec.toNat_add _ _
  have h2 : (s.pc + 2#16).toNat = (s.pc.toNat + 2) % 65536 := BitVec.toNat_add _ _
  have p0 := h.bus.placeable
  have p1 := State.placeByte_placeable p0 s.pc b0
  have p2 := State.placeByte_placeable p1 (s.pc + 1#16) b1
  have p3 := State.placeByte_placeable p2 (s.pc + 2#16) b2
  have first := State.placeByte_shows_self p0 s.pc b0
  have second := State.placeByte_shows_self p1 (s.pc + 1#16) b1
  have third := State.placeByte_shows_self p2 (s.pc + 2#16) b2
  have first' := State.placeByte_shows_of_ne p1 b1 first (a := s.pc + 1#16) (by omega)
    (storageKey_ne (by omega) (by omega) (by omega))
  have first'' := State.placeByte_shows_of_ne p2 b2 first' (a := s.pc + 2#16) (by omega)
    (storageKey_ne (by omega) (by omega) (by omega))
  have second' := State.placeByte_shows_of_ne p2 b2 second (a := s.pc + 2#16) (by omega)
    (storageKey_ne (by omega) (by omega) (by omega))
  have spared {a : Word} {v : Byte} (hk : a.toNat ∈ [s.pc.toNat, (s.pc + 1#16).toNat, (s.pc + 2#16).toNat])
      (hs : (((s.placeByte s.pc b0).placeByte (s.pc + 1#16) b1).placeByte (s.pc + 2#16) b2).bus.Shows a v) :
      (s.withBytesAtPc b0 b1 b2).beginStep.bus.Shows a v := by
    have := State.applyEnv_sparing_shows p3.mem_wf s.nextEnvMove.1 hk hs
    exact ⟨this.rom0, this.bank, this.high⟩
  exact ⟨spared (by simp) first'', spared (by simp) second', spared (by simp) third⟩

end Sys2Proof.Machine

open Sys2Proof Sys2Proof.Machine

/-- Settles O60: the three bytes fetched are the three placed, and nothing that stops a step is left. -/
theorem placedBytesAreFetched : Obligations.PlacedBytesAreFetched := by
  unfold Obligations.PlacedBytesAreFetched
  intro s b0 b1 b2 h
  obtain ⟨first, second, third⟩ := State.withBytesAtPc_shows h b0 b1 b2
  have hpc : (s.withBytesAtPc b0 b1 b2).beginStep.pc = s.pc := by
    simp only [State.beginStep_pc, State.withBytesAtPc, State.placeByte_pc]
  refine ⟨?_, (stepsSafely_iff _).2 ⟨rfl, rfl⟩⟩
  simp only [State.fetchInstr, State.read, hpc, first.read_eq, second.read_eq, third.read_eq]
end

section
/-! PROOFS. Noninterference: the outputs and the unread state (10_state.md sections 5 to 7). Each part of a step, run from a
blinded state, goes where it goes from the state itself, up to blinding; two states that blind alike are then followed
through the step together. -/

namespace Sys2Proof.Machine

/-! ## The bus -/

/-- A bus without MBC1MODE, the display copies, the dirty marks and the joypad output. -/
def Bus.blind (b : Bus) : Bus :=
  { b with
    mbc1Mode := false
    lcdc := Bus.reset.lcdc
    stat := Bus.reset.stat
    bgp := Bus.reset.bgp
    obp0 := Bus.reset.obp0
    obp1 := Bus.reset.obp1
    vramDirty := []
    joypadOut := [] }

theorem Bus.dmaMem_blind (b : Bus) (src : Word) (n : Nat) : b.blind.dmaMem src n = b.dmaMem src n := by
  induction n with
  | zero => rfl
  | succ n ih => simp only [Bus.dmaMem, ih]; rfl

theorem Bus.copyOam_blind (b : Bus) (v : Byte) : (b.blind.copyOam v).blind = (b.copyOam v).blind := by
  rw [Bus.copyOam, b.dmaMem_blind]; rfl

theorem Bus.ite_blind {c : Prop} [Decidable c] {x y x' y' : Bus} (hx : x.blind = x'.blind) (hy : y.blind = y'.blind) :
    (if c then x else y).blind = (if c then x' else y').blind := by
  split <;> assumption

theorem Bus.writeRom_blind (b : Bus) (a : Word) (v : Byte) : (b.blind.writeRom a v).blind = (b.writeRom a v).blind := by
  have hcart : b.blind.cartType = b.cartType := rfl
  unfold Bus.writeRom
  rw [hcart]
  cases b.cartType with
  | none => rfl
  | mbc1 => exact Bus.ite_blind rfl (Bus.ite_blind rfl (Bus.ite_blind rfl rfl))

/-- Branch by branch: P1, DIV, LY, LCDC, STAT, DMA, the palettes, IF and IE, the plain bytes. -/
theorem Bus.writeIo_blind (b : Bus) (a : Word) (v : Byte) : (b.blind.writeIo a v).blind = (b.writeIo a v).blind :=
  Bus.ite_blind rfl <| Bus.ite_blind rfl <| Bus.ite_blind rfl <| Bus.ite_blind rfl <| Bus.ite_blind rfl <|
  Bus.ite_blind ((b.store a v).copyOam_blind v) <| Bus.ite_blind rfl <| Bus.ite_blind rfl <| Bus.ite_blind rfl <|
  Bus.ite_blind rfl rfl

theorem Bus.write_blind (b : Bus) (a : Word) (v : Byte) : (b.blind.write a v).blind = (b.write a v).blind :=
  Bus.ite_blind (b.writeRom_blind a v) <| Bus.ite_blind (b.writeIo_blind a v) <| Bus.ite_blind rfl rfl

theorem Bus.writes_blind (l : List (Word × Byte)) (b b' : Bus) (h : b.blind = b'.blind) :
    (b.writes l).blind = (b'.writes l).blind := by
  induction l generalizing b b' with
  | nil => exact h
  | cons p l ih => exact ih _ _ (by rw [← b.write_blind, h, b'.write_blind])

/-! ## The instruction -/

/-- A state without its bus and its counts. -/
def State.rest (s : State) : State := { s with bus := Bus.reset, cycles := none, dispatchCycles := none }

theorem State.blind_eq_of_rest_eq {s t : State} (h : s.rest = t.rest) (hb : s.bus.blind = t.bus.blind) :
    s.blind = t.blind := by
  have hs (u : State) : u.blind = { u.rest with bus := u.bus.blind } := rfl
  rw [hs, hs, h, hb]

theorem Form.stores_blind (f : Form) (s : State) : f.stores s.blind = f.stores s := by
  cases f <;> rfl

theorem State.ite_rest {c : Prop} [Decidable c] {s t s' t' : State} (hs : s.rest = s'.rest) (ht : t.rest = t'.rest) :
    (if c then s else t).rest = (if c then s' else t').rest := by
  split <;> assumption

theorem Form.run_rest_blind (f : Form) (s : State) (hf : f ≠ .prefixCB) : (f.run s.blind).rest = (f.run s).rest := by
  cases f with
  | prefixCB => exact absurd rfl hf
  | halt | jumpIf cc t | jumpRelativeIf cc e | callIf cc t | retIf cc => exact State.ite_rest rfl rfl
  | loadRegReg r _ | loadRegImm r _ | loadRegAtHL r | incRegister r | decRegister r | shiftRegister _ r
  | resetRegisterBit _ r | setRegisterBit _ r => cases r <;> rfl
  | loadPairImm p _ | incPairBy _ p | popPair p => cases p <;> rfl
  | _ => rfl

theorem Form.run_blind_of_ne (f : Form) (s : State) (hf : f ≠ .prefixCB) : (f.run s.blind).blind = (f.run s).blind := by
  refine State.blind_eq_of_rest_eq (f.run_rest_blind s hf) ?_
  rw [f.run_bus _ hf, f.run_bus _ hf, f.stores_blind]
  exact Bus.writes_blind _ _ _ rfl

/-- The prefix runs the same extended instruction from both. -/
theorem Form.run_blind (f : Form) (s : State) : (f.run s.blind).blind = (f.run s).blind := by
  by_cases hf : f = .prefixCB
  · subst hf
    have hread : s.blind.read s.blind.pc = s.read s.pc := rfl
    have hstart : (s.blind.setPc (s.blind.pc + 1#16)).freshReads = (s.setPc (s.pc + 1#16)).freshReads.blind := rfl
    rw [Form.run, Form.run, prefixCB_eq_form, prefixCB_eq_form, hread, hstart]
    exact Form.run_blind_of_ne _ _ (formOf_decodeExtended_ne (s.read s.pc))
  · exact f.run_blind_of_ne s hf

/-! ## The environment and the check -/

/-- At least `n` of the coming moves are given ones (log 4). -/
abbrev State.movesGiven (s : State) (n : Nat) : Prop := n ≤ s.env.length ∨ s.envCycle ≠ []

theorem State.nextEnvMove_blind {s : State} {n : Nat} (h : s.movesGiven (n + 1)) :
    s.blind.nextEnvMove = s.nextEnvMove := by
  have henv : s.blind.env = s.env := rfl
  have hcycle : s.blind.envCycle = s.envCycle := rfl
  unfold State.nextEnvMove
  rw [henv, hcycle]
  split
  · rfl
  · rfl
  · rename_i he hc
    exact absurd h (by simp [State.movesGiven, he, hc])

theorem State.environmentTurn_blind {s : State} {n : Nat} (h : s.movesGiven (n + 1)) :
    s.blind.environmentTurn.blind = s.environmentTurn.blind := by
  rw [State.environmentTurn, State.environmentTurn, State.nextEnvMove_blind h]; rfl

theorem State.environmentTurn_movesGiven {s : State} {n : Nat} (h : s.movesGiven (n + 1)) :
    s.environmentTurn.movesGiven n := by
  unfold State.movesGiven at *
  rw [State.environmentTurn_env, State.environmentTurn_envCycle, State.nextEnvMove]
  split <;> simp_all

theorem State.dispatch_blind (s : State) (i : Fin 5) : (s.blind.dispatch i).blind = (s.dispatch i).blind := by
  refine State.blind_eq_of_rest_eq rfl ?_
  exact Bus.writes_blind [(s.sp - 1#16, hiByte s.pc), (s.sp - 1#16 - 1#16, loByte s.pc)] _ _ rfl

theorem State.ite_blind {c : Prop} [Decidable c] {s t s' t' : State} (hs : s.blind = s'.blind) (ht : t.blind = t'.blind) :
    (if c then s else t).blind = (if c then s' else t').blind := by
  split <;> assumption

theorem State.interruptCheck_blind (s : State) : s.blind.interruptCheck.blind = s.interruptCheck.blind := by
  have hpending : s.blind.pending = s.pending := rfl
  unfold State.interruptCheck
  rw [hpending]
  cases lowestPending s.pending with
  | none => rfl
  | some i => exact State.ite_blind (State.dispatch_blind { s with halted := false } i) rfl

/-- What goes where it goes from the blinded state goes alike from two states that blind alike. -/
theorem State.blind_congr {g : State → State} (hg : ∀ s, (g s.blind).blind = (g s).blind) {s t : State}
    (h : s.blind = t.blind) : (g s).blind = (g t).blind := by
  rw [← hg s, h, hg t]

theorem State.movesGiven_congr {s t : State} (h : s.blind = t.blind) {n : Nat} : s.movesGiven n ↔ t.movesGiven n := by
  have henv : s.env = t.env := (congrArg State.env h :)
  have hcycle : s.envCycle = t.envCycle := (congrArg State.envCycle h :)
  rw [State.movesGiven, henv, hcycle]

theorem State.boundary_blind {s : State} {n : Nat} (h : s.movesGiven (n + 1)) :
    s.blind.boundary.blind = s.boundary.blind := by
  have hstep : s.blind.noStep = s.noStep := rfl
  unfold State.boundary
  rw [hstep]
  cases s.noStep with
  | some _ => rfl
  | none =>
    have hturn := State.blind_congr (g := State.freshReads) (fun _ => rfl) (State.environmentTurn_blind h)
    exact State.blind_congr (g := State.freshReads) (fun _ => rfl) (State.blind_congr State.interruptCheck_blind hturn)

theorem State.boundary_blind_congr {s t : State} {n : Nat} (h : s.blind = t.blind) (ht : t.movesGiven (n + 1)) :
    s.boundary.blind = t.boundary.blind := by
  rw [← State.boundary_blind ((State.movesGiven_congr h).2 ht), h, State.boundary_blind ht]

/-! ## The start of the step -/

theorem State.beginStep_blind {s : State} {n : Nat} (h : s.movesGiven (n + 1)) :
    s.blind.beginStep.blind = s.beginStep.blind :=
  State.environmentTurn_blind h

theorem State.beginStep_movesGiven {s : State} {n : Nat} (h : s.movesGiven (n + 1)) : s.beginStep.movesGiven n :=
  State.environmentTurn_movesGiven h

theorem State.fetchInstr_congr {s t : State} (h : s.blind = t.blind) : s.fetchInstr = t.fetchInstr := by
  have hb (u : State) : u.blind.fetchInstr = u.fetchInstr := rfl
  rw [← hb s, h, hb t]

theorem Form.run_movesGiven {f : Form} {s : State} {n : Nat} (h : s.movesGiven n) : (f.run s).movesGiven n := by
  have hrun := f.run_control s
  have henv : (f.run s).env = s.env := (congrArg Control.env hrun).trans (f.control_env s)
  have hcycle : (f.run s).envCycle = s.envCycle := (congrArg Control.envCycle hrun).trans (f.control_envCycle s)
  rw [State.movesGiven, henv, hcycle]
  exact h

end Sys2Proof.Machine

open Sys2Proof Sys2Proof.Machine

/-- Settles O59: the two steps start alike, so they tick alike or run one instruction, and end alike. -/
theorem outputsAreNeverRead : Obligations.OutputsAreNeverRead := by
  unfold Obligations.OutputsAreNeverRead
  intro s t hmoves h
  have hbegin : s.blind.beginStep.blind = s.beginStep.blind := State.beginStep_blind hmoves
  have hone : s.beginStep.movesGiven 1 := State.beginStep_movesGiven hmoves
  have hhalted : s.blind.beginStep.halted = s.beginStep.halted := (congrArg State.halted hbegin :)
  obtain ⟨hstep, ⟨hh, rfl⟩ | ⟨hh, rfl⟩⟩ := step_cases h
  · refine ⟨_, step_halted hstep (hhalted.trans hh), ?_⟩
    exact State.boundary_blind_congr (State.blind_congr (g := State.haltedTick) (fun _ => rfl) hbegin) hone
  · refine ⟨_, step_running hstep (hhalted.trans hh), ?_⟩
    rw [State.fetchInstr_congr hbegin]
    have hfetch := State.blind_congr (g := State.afterFetch) (fun _ => rfl) hbegin
    exact State.boundary_blind_congr (State.blind_congr (g := (Form.run · _)) (Form.run_blind _) hfetch)
      (Form.run_movesGiven hone)
end

section
/-! PROOFS. The rest of 20_memory.md section 3: bank commands, the joypad, display and VRAM writes, and the OAM copy. -/

namespace Sys2Proof.Machine

/-! ## Bank commands (R68 to R73) -/

theorem Bus.writeRom_of_mbc1 {b : Bus} (h : b.cartType = .mbc1) (a : Word) (v : Byte) :
    b.writeRom a v =
      if a.toNat ≤ 0x1FFF then b
      else if a.toNat ≤ 0x3FFF then
        { b with romBank := if v.extractLsb' 0 5 = 0#5 then 1#5 else v.extractLsb' 0 5 }
      else if a.toNat ≤ 0x5FFF then b
      else { b with mbc1Mode := v.getLsbD 0 } := by
  simp only [Bus.writeRom, h]

/-- The bank number of a command: its low five bits, 1 for 0 (R70). -/
theorem bankNumber_eq (v : Byte) :
    (if v.extractLsb' 0 5 = 0#5 then 1#5 else v.extractLsb' 0 5) =
      BitVec.ofNat 5 (if v.toNat % 32 = 0 then 1 else v.toNat % 32) := by
  have hlow : (v.extractLsb' 0 5).toNat = v.toNat % 32 := BitVec.extractLsb'_toNat ..
  have hzero : v.extractLsb' 0 5 = 0#5 ↔ v.toNat % 32 = 0 := by rw [← BitVec.toNat_inj, hlow]; rfl
  by_cases h : v.toNat % 32 = 0
  · rw [if_pos (hzero.2 h), if_pos h]
  · rw [if_neg (mt hzero.1 h), if_neg h, ← hlow, BitVec.ofNat_toNat, BitVec.setWidth_eq]

/-! ## LCDC, STAT and VRAM (R77, R78, R84) -/

/-- Storage after a write to LCDC: LY is cleared exactly when bit 7 changes (R77). -/
theorem Bus.write_lcdc_mem (b : Bus) (v : Byte) :
    (b.write 0xFF40#16 v).mem =
      if (b.mem.read addrLCDC).getLsbD 7 != v.getLsbD 7 then (b.mem.write addrLCDC v).write addrLY 0x00#8
      else b.mem.write addrLCDC v := rfl

theorem Bus.write_vram (b : Bus) {a : Word} (v : Byte) (h : 0x8000 ≤ a.toNat) (h' : a.toNat ≤ 0x9FFF) :
    b.write a v = { b.store a v with vramDirty := insertAddress a.toNat b.vramDirty } := by
  rw [Bus.write, if_neg (by omega), if_neg (by omega), if_pos h']

/-! ## The OAM copy (R79) -/

theorem Bus.write_dma_mem (b : Bus) (v : Byte) :
    (b.write 0xFF46#16 v).mem = (b.store 0xFF46#16 v).dmaMem (joinBytes v 0x00#8) 160 :=
  Bus.copyOam_mem _ _

theorem Bus.read_store (b : Bus) (hb : b.mem.wf) {a : Word} (v : Byte) (ha : unmirrored a) (x : Word) :
    (b.store a v).read x = if x = a then v else b.read x := by
  by_cases hx : x = a
  · rw [if_pos hx, hx, Bus.read_high _ ha.1, Bus.store_mem, Memory.read_write_self hb]
  · rw [if_neg hx]
    exact b.read_congr_mem _ x fun _ => Memory.read_write_of_ne _ _ fun hk => hx (eq_of_storageKey_eq ha hk)

end Sys2Proof.Machine

open Sys2Proof Sys2Proof.Machine

/-- Settles O45: window by window. -/
theorem bankCommands : Obligations.BankCommands := by
  unfold Obligations.BankCommands
  intro b a v ha
  rw [b.write_low a v (by omega)]
  refine ⟨fun hc => ?none, fun hc h h' => ?bank, fun hc h => ?mode, fun hc h => ?others⟩
  case none => simp only [Bus.writeRom, hc]
  all_goals rw [Bus.writeRom_of_mbc1 hc]
  case bank => rw [if_neg (by omega), if_pos (by omega), bankNumber_eq]
  case mode =>
    have hbit : v.getLsbD 0 = decide (v.toNat % 2 = 1) := Nat.testBit_zero v.toNat
    rw [if_neg (by omega), if_neg (by omega), if_neg (by omega), hbit]
  case others =>
    rcases h with h | h
    · rw [if_pos (by omega)]
    · rw [if_neg (by omega), if_neg (by omega), if_pos (by omega)]

/-- Settles O48: the display fields and the events are the write's own; what is read back is `Bus.read_write_self`, but for
LY, which `Bus.write_lcdc_mem` gives. -/
theorem joypadAndDisplayWrites : Obligations.JoypadAndDisplayWrites := by
  unfold Obligations.JoypadAndDisplayWrites
  intro b v hb
  refine ⟨rfl, b.read_write_self _ v hb (by decide) (by decide), ?ly, rfl,
    b.read_write_self _ v hb (by decide) (by decide), rfl, rfl, rfl, rfl, rfl, rfl, fun a h h' => ⟨?vram, fun k => ?mark⟩,
    fun a _ hplain => b.read_write_plain_self a v hb hplain⟩
  case ly =>
    have hread (c : Bus) : c.read 0xFF44#16 = c.mem.read addrLY := rfl
    have hread' : b.read 0xFF40#16 = b.mem.read addrLCDC := rfl
    rw [hread, hread, hread', Bus.write_lcdc_mem]
    by_cases hbit : (b.mem.read addrLCDC).getLsbD 7 = v.getLsbD 7
    · rw [hbit, bne_self_eq_false, if_neg Bool.false_ne_true, if_pos rfl]
      exact Memory.read_write_of_ne _ _ (by decide)
    · rw [if_pos (bne_iff_ne.2 hbit), if_neg hbit]
      exact Memory.read_write_self (Memory.wf_write hb _ _) _ _
  case vram => exact b.read_write_plain_self a v hb (plainStorage_of_lt_io h (by omega))
  case mark => rw [b.write_vram v h h']; exact insertAddress_mem

/-- Settles O49: the copy reads the bus with the trigger byte stored; OAM is the copy, every other byte is the stored
bus's. -/
theorem oamCopy : Obligations.OamCopy := by
  unfold Obligations.OamCopy
  intro b v hb
  have hv := v.isLt
  have hown : unmirrored 0xFF46#16 := by decide
  refine ⟨fun i hi => ?oam, b.read_write_self _ v hb (by decide) (by decide), fun x hx hout => ?other⟩
  case oam =>
    have haddr : (BitVec.ofNat 16 (0xFE00 + i)).toNat = 0xFE00 + i := by rw [BitVec.toNat_ofNat]; omega
    have hsource : joinBytes v 0x00#8 + BitVec.ofNat 16 i = BitVec.ofNat 16 (v.toNat * 256 + i) := by
      apply BitVec.eq_of_toNat_eq
      rw [BitVec.toNat_add, joinBytes_toNat]
      simp only [BitVec.toNat_ofNat]
      omega
    have htrigger : BitVec.ofNat 16 (v.toNat * 256 + i) = 0xFF46#16 ↔ v.toNat * 256 + i = 0xFF46 := by
      rw [← BitVec.toNat_inj, BitVec.toNat_ofNat, BitVec.toNat_ofNat]; omega
    rw [Bus.read_high _ (by omega), storageKey_eq_self (by omega), haddr, b.write_dma_mem,
      read_dmaMem _ _ _ _ (Memory.wf_write hb _ _) hi le_rfl, b.read_store hb v hown, hsource]
    exact if_congr htrigger rfl rfl
  case other =>
    refine b.read_write_of_not_mayChange _ _ _ ?_
    rw [Bus.writeMayChange, if_neg (by decide)]
    rintro (⟨-, -, hk⟩ | ⟨hlcdc, -⟩ | ⟨-, hlo, hhi⟩)
    · exact hx (congrArg BitVec.toNat (eq_of_storageKey_eq hown hk))
    · exact absurd hlcdc (by decide)
    · omega
end

section
/-! PROOFS. The frames of the instructions (10_state.md sections 1 and 2): which registers and flags a form may write, said
once for every form, and which bytes of memory its stores may change. -/

namespace Sys2Proof

/-- The pair a register is a byte of; A is in none (R22, R23). -/
def Reg8.pair : Reg8 → Option Pair
  | .b | .c => some .bc
  | .d | .e => some .de
  | .h | .l => some .hl
  | .a => none

/-- The stack pair a register is a byte of. -/
def Reg8.stackPair : Reg8 → StackPair
  | .b | .c => .bc
  | .d | .e => .de
  | .h | .l => .hl
  | .a => .af

/-- Whether a register is a byte of a pair. -/
def Pair.has (p : Pair) (r : Reg8) : Bool := r.pair == some p

/-- Whether a register is a byte of a stack pair. -/
def StackPair.has (p : StackPair) (r : Reg8) : Bool := r.stackPair == p

theorem Pair.not_has_of_ne {p q : Pair} {r : Reg8} (h : p ≠ q) (hp : p.has r = true) : q.has r = false := by
  rw [Pair.has, beq_iff_eq] at hp
  rw [Pair.has, hp, beq_eq_false_iff_ne]
  exact fun hpq => h (Option.some.inj hpq)

theorem StackPair.not_has_of_ne {p q : StackPair} {r : Reg8} (h : p ≠ q) (hp : p.has r = true) : q.has r = false := by
  rw [StackPair.has, beq_iff_eq] at hp
  rw [StackPair.has, hp, beq_eq_false_iff_ne]
  exact h

end Sys2Proof

namespace Sys2Proof.Machine

/-! ## The registers a form may write -/

/-- The 8-bit registers a form may write. -/
def Form.writesReg : Form → Reg8 → Bool
  | .loadRegReg dst _, r | .loadRegImm dst _, r | .loadRegAtHL dst, r | .incRegister dst, r | .decRegister dst, r
  | .shiftRegister _ dst, r | .resetRegisterBit _ dst, r | .setRegisterBit _ dst, r => r == dst
  | .loadA _, r | .rotateAcc _, r | .decimalAdjust, r | .complementA, r => r == .a
  | .aluRegister o _, r | .aluMemory o, r | .aluImmediate o _, r => o != .cp && r == .a
  | .loadAMove _, r => r == .a || Pair.hl.has r
  | .storeAMove _, r | .addHL _, r | .loadHLSP _, r => Pair.hl.has r
  | .loadPairImm p _, r | .incPairBy _ p, r => p.has r
  | .popPair p, r => p.has r
  | .prefixCB, _ => true
  | _, _ => false

theorem State.getReg8_setPair_of_not_has (s : State) {p : Pair} {r : Reg8} (v : Word) (h : p.has r = false) :
    (s.setPair p v).getReg8 r = s.getReg8 r := by
  cases p <;> cases r <;> simp_all [Pair.has, Reg8.pair, State.setPair, State.getReg8, State.h, State.l]

theorem State.getReg8_setStackPair_of_not_has (s : State) {p : StackPair} {r : Reg8} (v : Word) (h : p.has r = false) :
    (s.setStackPair p v).getReg8 r = s.getReg8 r := by
  cases p <;> cases r <;>
    simp_all [StackPair.has, Reg8.stackPair, State.setStackPair, State.setPair, State.getReg8, State.h, State.l]

theorem State.getReg8_setReg8_of_beq (s : State) {r dst : Reg8} (v : Byte) (h : (r == dst) = false) :
    (s.setReg8 dst v).getReg8 r = s.getReg8 r :=
  s.getReg8_setReg8_of_ne v (beq_eq_false_iff_ne.1 h)

/-- `CP` writes A with its own value (R206). -/
theorem getReg8_aluWith {o : AluOp} {r : Reg8} (h : (o != .cp && r == .a) = false) (v : Byte) (k : Nat) (s : State) :
    (aluWith o v k s).getReg8 r = s.getReg8 r := by
  by_cases ho : o = .cp
  · subst ho; cases r <;> rfl
  · exact s.getReg8_setReg8_of_beq _ (by simpa [ho] using h)

/-- What a form does not write it keeps. -/
theorem Form.run_getReg8 {f : Form} {r : Reg8} (h : f.writesReg r = false) (s : State) :
    (f.run s).getReg8 r = s.getReg8 r := by
  cases f with
  | loadRegReg dst _ | loadRegImm dst _ | loadRegAtHL dst | incRegister dst | decRegister dst | shiftRegister _ dst
  | resetRegisterBit _ dst | setRegisterBit _ dst | loadA _ | rotateAcc _ | decimalAdjust | complementA =>
    exact s.getReg8_setReg8_of_beq _ h
  | aluRegister o _ | aluMemory o | aluImmediate o _ => exact getReg8_aluWith h _ _ s
  | loadAMove d =>
    obtain ⟨ha, hhl⟩ := Bool.or_eq_false_iff.1 h
    exact (State.getReg8_setPair_of_not_has (p := .hl) _ _ hhl).trans (s.getReg8_setReg8_of_beq _ ha)
  | storeAMove _ => exact (State.getReg8_setPair_of_not_has (p := .hl) _ _ h).trans (by simp [Sys2Proof.Machine.storeA])
  | addHL _ | loadHLSP _ => exact s.getReg8_setPair_of_not_has (p := .hl) _ h
  | loadPairImm p _ | incPairBy _ p => exact s.getReg8_setPair_of_not_has _ h
  | popPair p => exact (s.popSp.getReg8_setStackPair_of_not_has _ h).trans (s.getReg8_popSp r)
  | storeRegAtHL _ | storeImmAtHL _ | storeA _ | storeSP _ | incMemory | decMemory | shiftMemory _ | resetMemoryBit _
  | setMemoryBit _ =>
    simp [Form.run, Sys2Proof.Machine.storeRegAtHL, Sys2Proof.Machine.storeImmAtHL, Sys2Proof.Machine.storeA,
      Sys2Proof.Machine.storeSP, State.write16, Sys2Proof.Machine.incMemory, Sys2Proof.Machine.decMemory,
      Sys2Proof.Machine.shiftMemory, Sys2Proof.Machine.resetMemoryBit, Sys2Proof.Machine.setMemoryBit]
  | call _ | restart _ | pushPair _ =>
    simp [Form.run, Sys2Proof.Machine.call, Sys2Proof.Machine.restart, Sys2Proof.Machine.pushPair]
  | jumpIf _ _ | jumpRelativeIf _ _ | callIf _ _ | retIf _ =>
    simp only [Form.run, Sys2Proof.Machine.jumpIf, Sys2Proof.Machine.jumpRelativeIf, Sys2Proof.Machine.callIf,
      Sys2Proof.Machine.retIf]
    split <;> simp
  | halt => simp only [Form.run, Sys2Proof.Machine.halt]; split <;> rfl
  | prefixCB => exact nomatch h
  | _ => rfl

/-- The forms that may write SP. -/
def Form.writesSp : Form → Bool
  | .loadPairImm p _ | .incPairBy _ p => p == .sp
  | .loadSPHL | .addSP _ | .call _ | .callIf _ _ | .ret | .retIf _ | .reti | .restart _ | .pushPair _ | .popPair _
  | .prefixCB => true
  | _ => false

theorem Form.run_sp {f : Form} (h : f.writesSp = false) (s : State) : (f.run s).sp = s.sp := by
  cases f with
  | loadRegReg r _ | loadRegImm r _ | loadRegAtHL r | incRegister r | decRegister r | shiftRegister _ r
  | resetRegisterBit _ r | setRegisterBit _ r => cases r <;> rfl
  | loadPairImm p _ | incPairBy _ p => cases p <;> cases h <;> rfl
  | jumpIf cc t => simp only [Form.run, Sys2Proof.Machine.jumpIf]; split <;> rfl
  | jumpRelativeIf cc e => simp only [Form.run, Sys2Proof.Machine.jumpRelativeIf]; split <;> rfl
  | halt => simp only [Form.run, Sys2Proof.Machine.halt]; split <;> rfl
  | loadSPHL | addSP _ | call _ | callIf _ _ | ret | retIf _ | reti | restart _ | pushPair _ | popPair _ | prefixCB =>
    cases h
  | _ => rfl

/-- The forms that may write PC, which has been advanced past the instruction (R28). -/
def Form.writesPc : Form → Bool
  | .jump _ | .jumpIf _ _ | .jumpHL | .jumpRelative _ | .jumpRelativeIf _ _ | .call _ | .callIf _ _ | .ret | .retIf _
  | .reti | .restart _ | .prefixCB => true
  | _ => false

theorem Form.run_pc {f : Form} (h : f.writesPc = false) (s : State) : (f.run s).pc = s.pc := by
  cases f with
  | loadRegReg r _ | loadRegImm r _ | loadRegAtHL r | incRegister r | decRegister r | shiftRegister _ r
  | resetRegisterBit _ r | setRegisterBit _ r => cases r <;> rfl
  | loadPairImm p _ | incPairBy _ p | popPair p => cases p <;> rfl
  | halt => simp only [Form.run, Sys2Proof.Machine.halt]; split <;> rfl
  | jump _ | jumpIf _ _ | jumpHL | jumpRelative _ | jumpRelativeIf _ _ | call _ | callIf _ _ | ret | retIf _ | reti
  | restart _ | prefixCB => cases h
  | _ => rfl

/-! ## The flags a form may write -/

/-- The flags a form may write, each with its own bit. -/
def Form.writesFlags : Form → Flags
  | .incRegister _ | .decRegister _ | .incMemory | .decMemory | .testRegisterBit _ _ | .testMemoryBit _ =>
    ⟨true, true, true, false⟩
  | .addHL _ | .setCarry | .complementCarry => ⟨false, true, true, true⟩
  | .complementA => ⟨false, true, true, false⟩
  | .decimalAdjust => ⟨true, false, true, true⟩
  | .aluRegister _ _ | .aluMemory _ | .aluImmediate _ _ | .addSP _ | .loadHLSP _ | .rotateAcc _ | .shiftRegister _ _
  | .shiftMemory _ | .popPair .af | .prefixCB => ⟨true, true, true, true⟩
  | _ => ⟨false, false, false, false⟩

/-- `g` and `g'` agree on the flags that `w` does not name. -/
def Flags.agreeOff (w g g' : Flags) : Prop :=
  (w.z = false → g.z = g'.z) ∧ (w.n = false → g.n = g'.n) ∧ (w.h = false → g.h = g'.h) ∧ (w.c = false → g.c = g'.c)

theorem Flags.agreeOff_refl (w g : Flags) : w.agreeOff g g := ⟨fun _ => rfl, fun _ => rfl, fun _ => rfl, fun _ => rfl⟩

theorem Flags.agreeOff_all (g g' : Flags) : Flags.agreeOff ⟨true, true, true, true⟩ g g' := by simp [Flags.agreeOff]

theorem Flags.eq_of_agreeOff {g g' : Flags} (h : Flags.agreeOff ⟨false, false, false, false⟩ g g') : g = g' := by
  obtain ⟨hz, hn, hh, hc⟩ := h
  cases g; cases g'
  rw [Flags.mk.injEq]
  exact ⟨hz rfl, hn rfl, hh rfl, hc rfl⟩

@[simp] theorem State.flags_tick (s : State) (n : Nat) : (s.tick n).flags = s.flags := rfl
@[simp] theorem State.flags_setPc (s : State) (t : Word) : (s.setPc t).flags = s.flags := rfl
@[simp] theorem State.flags_write (s : State) (x : Word) (v : Byte) : (s.write x v).flags = s.flags := rfl
@[simp] theorem State.flags_push16 (s : State) (v : Word) : (s.push16 v).flags = s.flags := by simp [State.flags]
@[simp] theorem State.flags_popSp (s : State) : s.popSp.flags = s.flags := rfl

@[simp] theorem State.flags_setReg8 (s : State) (r : Reg8) (v : Byte) : (s.setReg8 r v).flags = s.flags := by
  cases r <;> rfl

@[simp] theorem State.flags_setPair (s : State) (p : Pair) (v : Word) : (s.setPair p v).flags = s.flags := by
  cases p <;> rfl

/-- A form keeps the flags it does not name. -/
theorem Form.run_flags (f : Form) (s : State) : f.writesFlags.agreeOff (f.run s).flags s.flags := by
  have hkeep {g : Flags} (h : g = s.flags) (w : Flags) : w.agreeOff g s.flags := h ▸ w.agreeOff_refl g
  cases f with
  | incRegister _ | decRegister _ | incMemory | decMemory | testRegisterBit _ _ | testMemoryBit _ =>
    exact ⟨nofun, nofun, nofun, fun _ => rfl⟩
  | addHL _ | setCarry | complementCarry => exact ⟨fun _ => rfl, nofun, nofun, nofun⟩
  | complementA => exact ⟨fun _ => rfl, nofun, nofun, fun _ => rfl⟩
  | decimalAdjust => exact ⟨nofun, fun _ => rfl, nofun, nofun⟩
  | aluRegister _ _ | aluMemory _ | aluImmediate _ _ | addSP _ | loadHLSP _ | rotateAcc _ | shiftRegister _ _
  | shiftMemory _ | prefixCB => exact Flags.agreeOff_all _ _
  | popPair p =>
    cases p with
    | af => exact Flags.agreeOff_all _ _
    | bc | de | hl => exact hkeep rfl _
  | loadRegReg r _ | loadRegImm r _ | loadRegAtHL r | resetRegisterBit _ r | setRegisterBit _ r =>
    exact hkeep (s.flags_setReg8 r _) _
  | loadPairImm p _ | incPairBy _ p => exact hkeep (s.flags_setPair p _) _
  | storeRegAtHL _ | storeImmAtHL _ | storeA _ | storeSP _ | resetMemoryBit _ | setMemoryBit _ =>
    refine hkeep ?_ _
    simp [Form.run, Sys2Proof.Machine.storeRegAtHL, Sys2Proof.Machine.storeImmAtHL, Sys2Proof.Machine.storeA,
      Sys2Proof.Machine.storeSP, State.write16, Sys2Proof.Machine.resetMemoryBit, Sys2Proof.Machine.setMemoryBit]
  | loadA _ | loadAMove _ | storeAMove _ =>
    refine hkeep ?_ _
    simp [Form.run, Sys2Proof.Machine.moveHL, Sys2Proof.Machine.storeA, Sys2Proof.Machine.loadA]
  | call _ | restart _ | pushPair _ =>
    refine hkeep ?_ _
    simp [Form.run, Sys2Proof.Machine.call, Sys2Proof.Machine.restart, Sys2Proof.Machine.pushPair]
  | jumpIf _ _ | jumpRelativeIf _ _ | callIf _ _ | retIf _ =>
    refine hkeep ?_ _
    simp only [Form.run, Sys2Proof.Machine.jumpIf, Sys2Proof.Machine.jumpRelativeIf, Sys2Proof.Machine.callIf,
      Sys2Proof.Machine.retIf]
    split <;> simp
  | halt => refine hkeep ?_ _; simp only [Form.run, Sys2Proof.Machine.halt]; split <;> rfl
  | _ => exact hkeep rfl _

theorem Form.run_flags_eq {f : Form} (h : f.writesFlags = ⟨false, false, false, false⟩) (s : State) :
    (f.run s).flags = s.flags :=
  Flags.eq_of_agreeOff (h ▸ f.run_flags s)

/-! ## The bytes that the stores of a form may change -/

/-- A write at another address does not change what a write may change: the size and bank it depends on stay, and so does
the LCDC byte. -/
theorem Bus.writeMayChange_write (b : Bus) {a a' : Word} (h : a ≠ a') (v v' : Byte) (x : Word) :
    (b.write a v).writeMayChange a' v' x ↔ b.writeMayChange a' v' x := by
  have hlcdc (ha' : a'.toNat = addrLCDC) : (b.write a v).mem.read addrLCDC = b.mem.read addrLCDC := by
    have hown : unmirrored 0xFF40#16 := by decide
    refine b.read_write_of_not_mayChange a v 0xFF40#16 ?_
    rw [Bus.writeMayChange]
    split
    · rintro ⟨-, -, -, -, hx⟩; exact absurd hx (by decide)
    · rintro (⟨-, -, hk⟩ | ⟨-, -, hx⟩ | ⟨-, -, hx⟩)
      · exact h ((eq_of_storageKey_eq hown hk.symm).trans (BitVec.eq_of_toNat_eq ha'.symm))
      · exact absurd hx (by decide)
      · exact absurd hx (by decide)
  simp only [Bus.writeMayChange, Bus.write_cartType]
  split
  · rfl
  · exact or_congr_right (or_congr_left (and_congr_right fun ha' => by rw [hlcdc ha']))

theorem Bus.read_writes_of_not_mayChange (l : List (Word × Byte)) (x : Word) (b : Bus)
    (hd : l.Pairwise fun p q => p.1 ≠ q.1) (h : ∀ p ∈ l, ¬ b.writeMayChange p.1 p.2 x) :
    (b.writes l).read x = b.read x := by
  induction l generalizing b with
  | nil => rfl
  | cons p l ih =>
    obtain ⟨hp, hl⟩ := List.pairwise_cons.1 hd
    obtain ⟨hx, hrest⟩ := List.forall_mem_cons.1 h
    calc ((b.write p.1 p.2).writes l).read x
      _ = (b.write p.1 p.2).read x :=
        ih _ hl fun q hq => mt (b.writeMayChange_write (hp q hq) p.2 q.2 x).1 (hrest q hq)
      _ = b.read x := b.read_write_of_not_mayChange _ _ _ hx

/-- The stores of a form are at distinct addresses. -/
theorem Form.stores_pairwise (f : Form) (s : State) : (f.stores s).Pairwise fun p q => p.1 ≠ q.1 := by
  have htwo {p q : Word × Byte} (h : p.1 ≠ q.1) : [p, q].Pairwise fun p q => p.1 ≠ q.1 := List.pairwise_pair.2 h
  have hpush (v : Word) : (s.pushStores v).Pairwise fun p q => p.1 ≠ q.1 := htwo (by bv_omega)
  cases f with
  | storeSP w => exact htwo (by bv_omega)
  | pushPair p => exact hpush _
  | call t | restart t => exact hpush _
  | callIf cc t =>
    change (if s.cond cc then s.pushStores s.pc else []).Pairwise _
    split
    · exact hpush _
    · exact .nil
  | storeRegAtHL _ | storeImmAtHL _ | storeA _ | storeAMove _ | incMemory | decMemory | shiftMemory _ | resetMemoryBit _
  | setMemoryBit _ => exact List.pairwise_singleton _ _
  | _ => exact .nil

/-- The bytes a form's stores may not change read as before. -/
theorem Form.run_read {f : Form} (hf : f ≠ .prefixCB) (s : State) {x : Word}
    (h : ∀ p ∈ f.stores s, ¬ s.bus.writeMayChange p.1 p.2 x) : (f.run s).read x = s.read x := by
  rw [State.read, f.run_bus s hf]
  exact Bus.read_writes_of_not_mayChange _ x _ (f.stores_pairwise s) h

end Sys2Proof.Machine
end

section
/-! PROOFS. The five frame obligations: the forms of their instructions, and what those keep. -/

namespace Sys2Proof.Machine

/-! ## The run state and the bus of the forms that keep them -/

theorem Form.run_ime {f : Form} {s : State} (h : (f.control s).ime = s.ime) : (f.run s).ime = s.ime :=
  (congrArg Control.ime (f.run_control s)).trans h

theorem Form.control_ime_of_ne {f : Form} (hdi : f ≠ .disableInterrupts) (hei : f ≠ .enableInterrupts) (hreti : f ≠ .reti)
    (s : State) : (f.control s).ime = s.ime := by
  rw [f.control_ime s, if_neg hdi, if_neg (not_or.2 ⟨hei, hreti⟩)]

/-- A form that writes none of the run state but IME. -/
def Form.keepsRun (f : Form) (s : State) : Prop := { f.control s with ime := s.ime } = s.counted

theorem Form.run_of_keepsRun {f : Form} {s : State} (h : f.keepsRun s) :
    (f.run s).halted = s.halted ∧ (f.run s).stopped = s.stopped ∧ (f.run s).fault = s.fault := by
  have hrun := f.run_control s
  exact ⟨(congrArg Control.halted hrun).trans (congrArg Control.halted h),
    (congrArg Control.stopped hrun).trans (congrArg Control.stopped h),
    (congrArg Control.fault hrun).trans (congrArg Control.fault h)⟩

theorem Form.ne_prefixCB_of_keepsPc {f : Form} (h : f.writesPc = false) : f ≠ .prefixCB := by
  rintro rfl
  cases h

theorem Form.run_bus_of_stores_eq_nil {f : Form} (hf : f ≠ .prefixCB) {s : State} (h : f.stores s = []) :
    (f.run s).bus = s.bus := by
  rw [f.run_bus s hf, h]; rfl

theorem State.read_of_bus_eq {s t : State} (h : t.bus = s.bus) (x : Word) : t.read x = s.read x :=
  congrArg (·.read x) h

/-! ## Pairs from the registers that make them up -/

theorem State.joinBytes_h_l (s : State) : joinBytes s.h s.l = s.hl := joinBytes_hiByte_loByte s.hl

/-- HL is kept when its two bytes are. -/
theorem State.hl_congr {s t : State} (hh : t.getReg8 .h = s.getReg8 .h) (hl : t.getReg8 .l = s.getReg8 .l) : t.hl = s.hl :=
  calc t.hl
    _ = joinBytes (t.getReg8 .h) (t.getReg8 .l) := t.joinBytes_h_l.symm
    _ = joinBytes (s.getReg8 .h) (s.getReg8 .l) := by rw [hh, hl]
    _ = s.hl := s.joinBytes_h_l

/-- A pair is kept when its two bytes are, or SP itself. -/
theorem State.getPair_congr {s t : State} {p : Pair} (hreg : ∀ r, p.has r = true → t.getReg8 r = s.getReg8 r)
    (hsp : p = .sp → t.sp = s.sp) : t.getPair p = s.getPair p := by
  cases p with
  | bc => exact congrArg₂ joinBytes (hreg .b rfl) (hreg .c rfl)
  | de => exact congrArg₂ joinBytes (hreg .d rfl) (hreg .e rfl)
  | hl => exact State.hl_congr (hreg .h rfl) (hreg .l rfl)
  | sp => exact hsp rfl

/-- A stack pair is kept when its bytes are, for AF with the flags. -/
theorem State.getStackPair_congr {s t : State} {p : StackPair} (hreg : ∀ r, p.has r = true → t.getReg8 r = s.getReg8 r)
    (hflags : p = .af → t.flags = s.flags) : t.getStackPair p = s.getStackPair p := by
  cases p with
  | bc => exact congrArg₂ joinBytes (hreg .b rfl) (hreg .c rfl)
  | de => exact congrArg₂ joinBytes (hreg .d rfl) (hreg .e rfl)
  | hl => exact State.hl_congr (hreg .h rfl) (hreg .l rfl)
  | af => exact congrArg₂ joinBytes (hreg .a rfl) (congrArg Flags.pack (hflags rfl))

end Sys2Proof.Machine

open Sys2Proof Sys2Proof.Machine

/-- Settles O37: by the frame of the eight forms. -/
theorem registerFormsFrame : Obligations.RegisterFormsFrame := by
  unfold Obligations.RegisterFormsFrame
  intro s t r src n o b i hi h
  rw [exec_eq_form] at h
  injection h with h
  subst h
  have hf := List.mem_map_of_mem (f := formOf) hi
  simp only [List.map_cons, List.map_nil, List.mem_cons, List.not_mem_nil, or_false, formOf_ldReg, formOf_ldRegImm,
    formOf_ldRegAtHL, formOf_incReg, formOf_decReg, formOf_shiftReg, formOf_resReg, formOf_setReg] at hf
  obtain ⟨hreg, hsp, hpc, hime, hrun, hstores⟩ :
      (∀ r', r' ≠ r → (formOf i).writesReg r' = false) ∧ (formOf i).writesSp = false ∧ (formOf i).writesPc = false ∧
        ((formOf i).control s).ime = s.ime ∧ (formOf i).keepsRun s ∧ (formOf i).stores s = [] := by
    rcases hf with e | e | e | e | e | e | e | e <;> rw [e] <;>
      exact ⟨fun r' hr => beq_eq_false_iff_ne.2 hr, rfl, rfl, rfl, rfl, rfl⟩
  obtain ⟨hhalted, hstopped, hfault⟩ := Form.run_of_keepsRun hrun
  have hbus := Form.run_bus_of_stores_eq_nil (Form.ne_prefixCB_of_keepsPc hpc) hstores
  refine ⟨fun r' hr => Form.run_getReg8 (hreg r' hr) s, Form.run_sp hsp s, Form.run_pc hpc s, Form.run_ime hime, hhalted,
    hstopped, hfault, hbus, State.read_of_bus_eq hbus, fun hsub => ?flags, fun hsub => ?carry⟩
  case flags =>
    refine Form.run_flags_eq ?_ s
    have hsub := List.mem_map_of_mem (f := formOf) hsub
    simp only [List.map_cons, List.map_nil, List.mem_cons, List.not_mem_nil, or_false, formOf_ldReg, formOf_ldRegImm,
      formOf_ldRegAtHL, formOf_resReg, formOf_setReg] at hsub
    rcases hsub with e | e | e | e | e <;> rw [e] <;> rfl
  case carry =>
    obtain ⟨-, -, -, hc⟩ := (formOf i).run_flags s
    have hsub := List.mem_map_of_mem (f := formOf) hsub
    simp only [List.map_cons, List.map_nil, List.mem_cons, List.not_mem_nil, or_false, formOf_incReg,
      formOf_decReg] at hsub
    refine hc ?_
    rcases hsub with e | e <;> rw [e] <;> rfl

/-- Settles O38: by the frame of the forms; `DI` and `EI` are the only instructions with the forms that write IME. -/
theorem accumulatorFormsFrame : Obligations.AccumulatorFormsFrame := by
  unfold Obligations.AccumulatorFormsFrame
  intro s t o r n b w i hi h
  rw [exec_eq_form] at h
  injection h with h
  subst h
  have hf := List.mem_map_of_mem (f := formOf) hi
  simp only [List.map_cons, List.map_nil, List.mem_cons, List.not_mem_nil, or_false, formOf_aluReg, formOf_aluAtHL,
    formOf_aluImm, formOf_bitReg, formOf_bitAtHL] at hf
  have hacc (r' : Reg8) (hr : r' ≠ .a) : (r' == .a) = false := beq_eq_false_iff_ne.2 hr
  have halu (r' : Reg8) (hr : r' ≠ .a) : (o != .cp && r' == .a) = false := by rw [hacc r' hr, Bool.and_false]
  have hreg : ∀ r', r' ≠ .a → (formOf i).writesReg r' = false := by
    intro r' hr
    rcases hf with e | e | e | hf
    iterate 3 · rw [e]; exact halu r' hr
    rcases hf with e | e | e | e | e | e | e | e | e | e | e | hf
    iterate 11 · rw [e]; exact hacc r' hr
    rcases hf with e | e | e | e | e | e | e <;> rw [e] <;> rfl
  obtain ⟨hsp, hpc, hrun, hstores, hreti⟩ :
      (formOf i).writesSp = false ∧ (formOf i).writesPc = false ∧
        (formOf i).keepsRun s ∧ (formOf i).stores s = [] ∧ formOf i ≠ .reti := by
    rcases hf with e | e | e | e | e | e | e | e | e | e | e | e | e | e | e | e | e | e | e | e | e <;>
      rw [e] <;> exact ⟨rfl, rfl, rfl, rfl, nofun⟩
  obtain ⟨hhalted, hstopped, hfault⟩ := Form.run_of_keepsRun hrun
  have hbus := Form.run_bus_of_stores_eq_nil (Form.ne_prefixCB_of_keepsPc hpc) hstores
  obtain ⟨hz, hn, -, hc⟩ := (formOf i).run_flags s
  refine ⟨fun r' hr => Form.run_getReg8 (hreg r' hr) s, Form.run_sp hsp s, Form.run_pc hpc s, hhalted,
    hstopped, hfault, hbus, State.read_of_bus_eq hbus, fun hdi hei => Form.run_ime ?ime, fun hsub => ?acc,
    fun hsub => ?flags, fun hsub => ?carry, fun hsub => ?zero, fun hdaa => hn ?neg⟩
  case ime =>
    exact Form.control_ime_of_ne (mt (formOf_eq_iff (j := .di) rfl rfl i).1 hdi)
      (mt (formOf_eq_iff (j := .ei) rfl rfl i).1 hei) hreti s
  case neg => rw [hdaa]; rfl
  all_goals
    have hsub := List.mem_map_of_mem (f := formOf) hsub
    simp only [List.map_cons, List.map_nil, List.mem_cons, List.not_mem_nil, or_false, formOf_aluReg, formOf_aluAtHL,
      formOf_aluImm, formOf_bitReg, formOf_bitAtHL] at hsub
  case acc =>
    refine Form.run_getReg8 (r := .a) ?_ s
    rcases hsub with e | e | e | e | e | e | e | e | e | e <;> rw [e] <;> rfl
  case flags =>
    refine Form.run_flags_eq ?_ s
    rcases hsub with e | e | e | e | e | e | e | e <;> rw [e] <;> rfl
  case carry =>
    refine hc ?_
    rcases hsub with e | e | e <;> rw [e] <;> rfl
  case zero =>
    refine hz ?_
    rcases hsub with e | e | e <;> rw [e] <;> rfl

/-- Settles O39: a form writes at most the bytes of its pair, or SP. -/
theorem pairFormsFrame : Obligations.PairFormsFrame := by
  unfold Obligations.PairFormsFrame
  intro s t p w e i dst hi h
  rw [exec_eq_form] at h
  injection h with h
  subst h
  have hf := List.mem_map_of_mem (f := Prod.map formOf id) hi
  simp only [List.map_cons, List.map_nil, List.mem_cons, List.not_mem_nil, or_false, Prod.map_apply, id_eq,
    Prod.mk.injEq, formOf_ldPairImm, formOf_incPair, formOf_decPair, formOf_addHLPair] at hf
  obtain ⟨hreg, hsp, hpc, hime, hrun, hstores⟩ :
      (∀ r, dst.has r = false → (formOf i).writesReg r = false) ∧ (dst ≠ .sp → (formOf i).writesSp = false) ∧
        (formOf i).writesPc = false ∧ ((formOf i).control s).ime = s.ime ∧ (formOf i).keepsRun s ∧
        (formOf i).stores s = [] := by
    rcases hf with ⟨e, rfl⟩ | ⟨e, rfl⟩ | ⟨e, rfl⟩ | ⟨e, rfl⟩ | ⟨e, rfl⟩ | ⟨e, rfl⟩ | ⟨e, rfl⟩ <;> rw [e]
    iterate 3 · exact ⟨fun _ hr => hr, beq_eq_false_iff_ne.2, rfl, rfl, rfl, rfl⟩
    · exact ⟨fun _ hr => hr, fun _ => rfl, rfl, rfl, rfl, rfl⟩
    iterate 2 · exact ⟨fun _ _ => rfl, fun hne => absurd rfl hne, rfl, rfl, rfl, rfl⟩
    · exact ⟨fun _ hr => hr, fun _ => rfl, rfl, rfl, rfl, rfl⟩
  have hkeep (r : Reg8) (hr : dst.has r = false) : (Form.run s (formOf i)).getReg8 r = s.getReg8 r :=
    Form.run_getReg8 (hreg r hr) s
  have ha : dst.has .a = false := by cases dst <;> rfl
  obtain ⟨hhalted, hstopped, hfault⟩ := Form.run_of_keepsRun hrun
  have hbus := Form.run_bus_of_stores_eq_nil (Form.ne_prefixCB_of_keepsPc hpc) hstores
  refine ⟨fun p' hp => State.getPair_congr (fun r hr => hkeep r (Pair.not_has_of_ne hp hr)) fun e => ?stack, hkeep .a ha,
    Form.run_pc hpc s, Form.run_ime hime, hhalted, hstopped, hfault, hbus, State.read_of_bus_eq hbus,
    fun hsub => Form.run_flags_eq ?flags s, fun hadd => ?zero⟩
  case stack => exact Form.run_sp (hsp (e ▸ hp.symm)) s
  case flags =>
    have hsub := List.mem_map_of_mem (f := formOf) hsub
    simp only [List.map_cons, List.map_nil, List.mem_cons, List.not_mem_nil, or_false, formOf_ldPairImm, formOf_incPair,
      formOf_decPair] at hsub
    rcases hsub with e | e | e | e <;> rw [e] <;> rfl
  case zero =>
    obtain ⟨hz, -⟩ := (formOf i).run_flags s
    refine hz ?_
    rw [hadd, formOf_addHLPair]; rfl

/-- Settles O40: by the frame of the seventeen forms, and `Form.run_read` for the memory. -/
theorem storingFormsFrame : Obligations.StoringFormsFrame := by
  unfold Obligations.StoringFormsFrame
  intro s t src n w o b i hi h
  rw [exec_eq_form] at h
  injection h with h
  subst h
  have hf := List.mem_map_of_mem (f := fun i => (i, formOf i)) hi
  simp only [List.map_cons, List.map_nil, List.mem_cons, List.not_mem_nil, or_false, Prod.mk.injEq, formOf_ldAtHLReg,
    formOf_shiftAtHL, formOf_resAtHL, formOf_setAtHL] at hf
  obtain ⟨hb, hc, hd, he, hsp, hpc, hime, hrun⟩ :
      (formOf i).writesReg .b = false ∧ (formOf i).writesReg .c = false ∧ (formOf i).writesReg .d = false ∧
        (formOf i).writesReg .e = false ∧ (formOf i).writesSp = false ∧ (formOf i).writesPc = false ∧
        ((formOf i).control s).ime = s.ime ∧ (formOf i).keepsRun s := by
    rcases hf with ⟨-, e⟩ | ⟨-, e⟩ | ⟨-, e⟩ | ⟨-, e⟩ | ⟨-, e⟩ | ⟨-, e⟩ | ⟨-, e⟩ | ⟨-, e⟩ | ⟨-, e⟩ | ⟨-, e⟩ | ⟨-, e⟩ |
      ⟨-, e⟩ | ⟨-, e⟩ | ⟨-, e⟩ | ⟨-, e⟩ | ⟨-, e⟩ | ⟨-, e⟩ <;>
      rw [e] <;> exact ⟨rfl, rfl, rfl, rfl, rfl, rfl, rfl, rfl⟩
  obtain ⟨ha, hhl, hflags⟩ :
      (i ∈ [Instr.ldAAtHLInc, .ldAAtHLDec] ∨ (formOf i).writesReg .a = false) ∧
        (i ∈ [Instr.ldAtHLIncA, .ldAtHLDecA, .ldAAtHLInc, .ldAAtHLDec] ∨
          (formOf i).writesReg .h = false ∧ (formOf i).writesReg .l = false) ∧
        (i ∈ [Instr.incAtHL, .decAtHL, .shiftAtHL o] ∨ (formOf i).writesFlags = ⟨false, false, false, false⟩) := by
    rcases hf with ⟨-, e⟩ | ⟨-, e⟩ | ⟨-, e⟩ | ⟨-, e⟩ | ⟨-, e⟩ | ⟨-, e⟩ | ⟨-, e⟩ | hf
    iterate 7 · rw [e]; exact ⟨.inr rfl, .inr ⟨rfl, rfl⟩, .inr rfl⟩
    rcases hf with ⟨rfl, e⟩ | ⟨rfl, e⟩ | ⟨rfl, e⟩ | ⟨rfl, e⟩ | hf
    iterate 2 · exact ⟨.inr rfl, .inl (by simp), .inr rfl⟩
    iterate 2 · exact ⟨.inl (by simp), .inl (by simp), .inr rfl⟩
    rcases hf with ⟨-, e⟩ | ⟨rfl, -⟩ | ⟨rfl, -⟩ | ⟨rfl, e⟩ | ⟨-, e⟩ | ⟨-, e⟩
    · rw [e]; exact ⟨.inr rfl, .inr ⟨rfl, rfl⟩, .inr rfl⟩
    iterate 2 · exact ⟨.inr rfl, .inr ⟨rfl, rfl⟩, .inl (by simp)⟩
    · rw [e]; exact ⟨.inr rfl, .inr ⟨rfl, rfl⟩, .inl (by simp)⟩
    iterate 2 · rw [e]; exact ⟨.inr rfl, .inr ⟨rfl, rfl⟩, .inr rfl⟩
  obtain ⟨hhalted, hstopped, hfault⟩ := Form.run_of_keepsRun hrun
  have hkeep {r : Reg8} (hr : (formOf i).writesReg r = false) : (Form.run s (formOf i)).getReg8 r = s.getReg8 r :=
    Form.run_getReg8 hr s
  refine ⟨hkeep hb, hkeep hc, hkeep hd, hkeep he, Form.run_sp hsp s, Form.run_pc hpc s, Form.run_ime hime, hhalted,
    hstopped, hfault, fun hnot => hkeep (ha.resolve_left hnot), fun hnot => ?hl,
    fun hnot => Form.run_flags_eq (hflags.resolve_left hnot) s, fun hsub => ?carry, fun x hx => ?mem⟩
  case hl =>
    obtain ⟨hh, hl⟩ := hhl.resolve_left hnot
    exact State.hl_congr (hkeep hh) (hkeep hl)
  case carry =>
    obtain ⟨-, -, -, hc⟩ := (formOf i).run_flags s
    simp only [List.mem_cons, List.not_mem_nil, or_false] at hsub
    rcases hsub with rfl | rfl <;> exact hc rfl
  case mem =>
    rw [byteStores_eq_form] at hx
    exact Form.run_read (Form.ne_prefixCB_of_keepsPc hpc) s hx

/-- Settles O41: by the frame of the thirteen forms, and `Form.run_read` for the memory. -/
theorem stackAndControlFrame : Obligations.StackAndControlFrame := by
  unfold Obligations.StackAndControlFrame
  intro s t cc w e y p i hi h
  rw [exec_eq_form] at h
  injection h with h
  subst h
  have hf := List.mem_map_of_mem (f := fun i => (i, formOf i)) hi
  simp only [List.map_cons, List.map_nil, List.mem_cons, List.not_mem_nil, or_false, Prod.mk.injEq, formOf_jpCond,
    formOf_jrCond, formOf_callCond, formOf_retCond, formOf_rst, formOf_push, formOf_pop] at hf
  obtain ⟨hpop, hflags, hrun, hne⟩ :
      (∀ q, i ≠ .pop q → ∀ r, q.has r = true → (formOf i).writesReg r = false) ∧
        (i ≠ .pop .af → (formOf i).writesFlags = ⟨false, false, false, false⟩) ∧ (formOf i).keepsRun s ∧
        formOf i ≠ .prefixCB := by
    rcases hf with ⟨-, e⟩ | ⟨-, e⟩ | ⟨-, e⟩ | ⟨-, e⟩ | ⟨-, e⟩ | ⟨-, e⟩ | ⟨-, e⟩ | ⟨-, e⟩ | ⟨-, e⟩ | ⟨-, e⟩ | ⟨-, e⟩ |
      ⟨-, e⟩ | ⟨rfl, e⟩ <;> rw [e]
    iterate 12 · exact ⟨fun _ _ _ _ => rfl, fun _ => rfl, rfl, nofun⟩
    refine ⟨fun q hq r hr => StackPair.not_has_of_ne (fun hqp => hq (by rw [hqp])) hr, fun hq => ?_, rfl, nofun⟩
    cases p with
    | af => exact absurd rfl hq
    | _ => rfl
  have hmem : i ∈ [Instr.callA16 w, .callCond cc w, .rst y, .push p] ∨ (formOf i).stores s = [] := by
    rcases hf with ⟨-, e⟩ | ⟨-, e⟩ | ⟨-, e⟩ | ⟨-, e⟩ | ⟨-, e⟩ | ⟨rfl, -⟩ | ⟨rfl, -⟩ | ⟨-, e⟩ | ⟨-, e⟩ | ⟨-, e⟩ | ⟨rfl, -⟩ |
      ⟨rfl, -⟩ | ⟨-, e⟩
    iterate 5 · rw [e]; exact .inr rfl
    iterate 2 · exact .inl (by simp)
    iterate 3 · rw [e]; exact .inr rfl
    iterate 2 · exact .inl (by simp)
    · rw [e]; exact .inr rfl
  have hime (hreti : i ≠ .reti) : ((formOf i).control s).ime = s.ime := by
    rcases hf with ⟨-, e⟩ | ⟨-, e⟩ | ⟨-, e⟩ | ⟨-, e⟩ | ⟨-, e⟩ | ⟨-, e⟩ | ⟨-, e⟩ | ⟨-, e⟩ | ⟨-, e⟩ | ⟨hi, -⟩ | ⟨-, e⟩ |
      ⟨-, e⟩ | ⟨-, e⟩
    iterate 9 · rw [e]; rfl
    · exact absurd hi hreti
    iterate 3 · rw [e]; rfl
  obtain ⟨hhalted, hstopped, hfault⟩ := Form.run_of_keepsRun hrun
  simp only [byteStores_eq_form]
  refine ⟨fun q hq => State.getStackPair_congr (fun r hr => Form.run_getReg8 (hpop q hq r hr) s) fun haf =>
      Form.run_flags_eq (hflags (haf ▸ hq)) s, fun hq => Form.run_flags_eq (hflags hq) s, hhalted, hstopped, hfault,
    fun hreti => Form.run_ime (hime hreti), fun hsub => Form.run_sp ?sp s, fun hsub => Form.run_pc ?pc s,
    fun hsub => ?call, fun e => by rw [e, formOf_callCond]; rfl, fun e => by rw [e, formOf_push]; rfl, fun hnot => ?bus,
    fun x hx => Form.run_read hne s hx⟩
  case bus =>
    have hbus := Form.run_bus_of_stores_eq_nil hne (hmem.resolve_left hnot)
    exact ⟨hbus, State.read_of_bus_eq hbus⟩
  all_goals
    have hsub := List.mem_map_of_mem (f := formOf) hsub
    simp only [List.map_cons, List.map_nil, List.mem_cons, List.not_mem_nil, or_false, formOf_jpCond, formOf_jrCond,
      formOf_rst, formOf_push, formOf_pop] at hsub
  case sp => rcases hsub with e | e | e | e | e <;> rw [e] <;> rfl
  case pc => rcases hsub with e | e <;> rw [e] <;> rfl
  case call => rcases hsub with e | e <;> rw [e] <;> rfl
end

section
/-! PROOFS. What is left of the functional statements: the rotates of A, decimal arithmetic, and the round trip of a push
and a pop. -/

namespace Sys2Proof.Machine

/-! ## The rotates of A (44_rotates_shifts.md section 1) -/

theorem exec_rotateAcc {i : Instr} {o : ShiftOp} {s : State} {x : Byte} {c : Bool} (hi : formOf i = .rotateAcc o)
    (hx : shiftBits o s.a s.fC = (x, c)) :
    exec i s = .next { s with a := x, fZ := false, fN := false, fH := false, fC := c, cycles := some 4 } := by
  rw [exec_of_formOf hi s, Form.run, rotateAcc, rotateA, hx]; rfl

/-! ## Decimal numbers in packed form (48_daa_misc.md R290) -/

theorem bcdByte_toNat {p q : Nat} (hp : p ≤ 9) (hq : q ≤ 9) : (bcdByte (10 * p + q)).toNat = p * 16 + q := by
  rw [bcdByte, BitVec.toNat_ofNat]; omega

theorem exists_digits {x : Nat} (hx : x < 100) : ∃ p q, p ≤ 9 ∧ q ≤ 9 ∧ x = 10 * p + q :=
  ⟨x / 10, x % 10, by omega, by omega, by omega⟩

/-- A byte with the value of a packed number is that number's. -/
theorem ofNat_eq_bcdByte {k n : Nat} (h : k % 256 = n % 100 / 10 * 16 + n % 10) : BitVec.ofNat 8 k = bcdByte (n % 100) := by
  apply BitVec.eq_of_toNat_eq
  rw [bcdByte, BitVec.toNat_ofNat, BitVec.toNat_ofNat]
  omega

/-- DAA's adjustment of the sum of two packed numbers, of digits `p q` and `r u`, is the packed sum: 6 makes a sum above 9
of the low digits carry into the high ones, and 0x60 does the same there. -/
theorem daa_sum_toNat {p q r u cin t : Nat} (hp : p ≤ 9) (hq : q ≤ 9) (hr : r ≤ 9) (hu : u ≤ 9) (hc : cin ≤ 1)
    (ht : t = p * 16 + q + (r * 16 + u) + cin) :
    (t % 256 + ((if t > 0xFF ∨ t % 256 > 0x99 then 0x60 else 0) +
      (if q + u + cin > 0x0F ∨ t % 256 % 16 > 9 then 0x06 else 0))) % 256 =
      (10 * p + q + (10 * r + u) + cin) % 100 / 10 * 16 + (10 * p + q + (10 * r + u) + cin) % 10 := by
  by_cases hlow : q + u + cin ≤ 9 <;> by_cases hhigh : 10 * p + q + (10 * r + u) + cin ≤ 99
  · have h1 : (10 * p + q + (10 * r + u) + cin) % 10 = q + u + cin := by omega
    have h2 : (10 * p + q + (10 * r + u) + cin) % 100 / 10 = p + r := by omega
    rw [h1, h2, if_neg (by omega), if_neg (by omega)]; omega
  · have h1 : (10 * p + q + (10 * r + u) + cin) % 10 = q + u + cin := by omega
    have h2 : (10 * p + q + (10 * r + u) + cin) % 100 / 10 = p + r - 10 := by omega
    rw [h1, h2, if_pos (by omega), if_neg (by omega)]; omega
  · have h1 : (10 * p + q + (10 * r + u) + cin) % 10 = q + u + cin - 10 := by omega
    have h2 : (10 * p + q + (10 * r + u) + cin) % 100 / 10 = p + r + 1 := by omega
    rw [h1, h2, if_neg (by omega), if_pos (by omega)]; omega
  · have h1 : (10 * p + q + (10 * r + u) + cin) % 10 = q + u + cin - 10 := by omega
    have h2 : (10 * p + q + (10 * r + u) + cin) % 100 / 10 = p + r - 9 := by omega
    rw [h1, h2, if_pos (by omega), if_pos (by omega)]; omega

/-- DAA's adjustment of the difference of two packed numbers is the packed difference: a borrow out of a digit took 16 where
a decimal digit lends 10. -/
theorem daa_difference_toNat {p q r u cin t : Nat} (hp : p ≤ 9) (hq : q ≤ 9) (hr : r ≤ 9) (hu : u ≤ 9) (hc : cin ≤ 1)
    (ht : t = p * 16 + q + 512 - (r * 16 + u) - cin) :
    (t % 256 + 256 - ((if p * 16 + q < r * 16 + u + cin then 0x60 else 0) + (if q < u + cin then 0x06 else 0))) % 256 =
      (10 * p + q + 200 - (10 * r + u) - cin) % 100 / 10 * 16 + (10 * p + q + 200 - (10 * r + u) - cin) % 10 := by
  by_cases hlow : q < u + cin <;> by_cases hhigh : p * 16 + q < r * 16 + u + cin
  · have h1 : (10 * p + q + 200 - (10 * r + u) - cin) % 10 = q + 10 - u - cin := by omega
    have h2 : (10 * p + q + 200 - (10 * r + u) - cin) % 100 / 10 = p + 9 - r := by omega
    rw [h1, h2, if_pos hhigh, if_pos hlow]; omega
  · have h1 : (10 * p + q + 200 - (10 * r + u) - cin) % 10 = q + 10 - u - cin := by omega
    have h2 : (10 * p + q + 200 - (10 * r + u) - cin) % 100 / 10 = p - 1 - r := by omega
    rw [h1, h2, if_neg hhigh, if_pos hlow]; omega
  · have h1 : (10 * p + q + 200 - (10 * r + u) - cin) % 10 = q - u - cin := by omega
    have h2 : (10 * p + q + 200 - (10 * r + u) - cin) % 100 / 10 = p + 10 - r := by omega
    rw [h1, h2, if_pos hhigh, if_neg hlow]; omega
  · have h1 : (10 * p + q + 200 - (10 * r + u) - cin) % 10 = q - u - cin := by omega
    have h2 : (10 * p + q + 200 - (10 * r + u) - cin) % 100 / 10 = p - r := by omega
    rw [h1, h2, if_neg hhigh, if_neg hlow]; omega

/-! ## A push followed by a pop (47_stack.md section 2) -/

theorem Bus.read_write_plain_of_ne (b : Bus) {a x : Word} (v : Byte) (ha : plainStorage a) (hx : 0x8000 ≤ x.toNat)
    (hk : storageKey x ≠ storageKey a) : (b.write a v).read x = b.read x := by
  rw [Bus.read_high _ hx, Bus.read_high _ hx, b.write_mem_plain a v ha, Memory.read_write_of_ne _ _ hk]

/-- The bytes below SP after a push over plain storage. -/
theorem Bus.read_write_write_below (b : Bus) (sp : Word) (h l : Byte) (hb : b.mem.wf) (h1 : plainStorage (sp - 1#16))
    (h2 : plainStorage (sp - 2#16)) :
    ((b.write (sp - 1#16) h).write (sp - 2#16) l).read (sp - 1#16) = h ∧
      ((b.write (sp - 1#16) h).write (sp - 2#16) l).read (sp - 2#16) = l := by
  have hk : storageKey (sp - 1#16) ≠ storageKey (sp - 2#16) := by
    have hlow := h1.1
    have hlow' := h2.1
    apply storageKey_ne <;> bv_omega
  refine ⟨?_, Bus.read_write_plain_self _ _ l (b.wf_write _ _ hb) h2⟩
  rw [Bus.read_write_plain_of_ne _ l h2 h1.1 hk, b.read_write_plain_self _ h hb h1]

/-- AF as read has bits 3 to 0 zero (R25). -/
theorem State.getStackPair_af_and (s : State) : s.getStackPair .af &&& 0xFFF0#16 = s.getStackPair .af := by
  have h := s.getStackPair_setStackPair_self .af (s.getStackPair .af)
  rw [if_pos rfl] at h
  rw [← h]
  simp [State.getStackPair, State.setStackPair, State.f]

theorem State.flags_setStackPair_of_ne (s : State) {p : StackPair} (v : Word) (h : p ≠ .af) :
    (s.setStackPair p v).flags = s.flags := by
  cases p with
  | af => exact absurd rfl h
  | _ => rfl

theorem State.getStackPair_setStackPair_of_ne (s : State) {p q : StackPair} (v : Word) (h : q ≠ p) :
    (s.setStackPair p v).getStackPair q = s.getStackPair q :=
  State.getStackPair_congr (fun _ hr => s.getReg8_setStackPair_of_not_has v (StackPair.not_has_of_ne h hr))
    fun haf => s.flags_setStackPair_of_ne v fun hp => h (haf.trans hp.symm)

end Sys2Proof.Machine

open Sys2Proof Sys2Proof.Machine

/-- Settles O21: each rotate is the one of `shiftBits`, with fZ cleared. -/
theorem rotateA : Obligations.RotateA := by
  unfold Obligations.RotateA
  intro s flagged
  exact ⟨exec_rotateAcc rfl (shiftBits_rlc s.a s.fC), exec_rotateAcc rfl (shiftBits_rrc s.a s.fC),
    exec_rotateAcc rfl (shiftBits_rl s.a s.fC), exec_rotateAcc rfl (shiftBits_rr s.a s.fC)⟩

/-- Settles O31: `ADC` and `SBC` give the binary sum and difference of the packed bytes, which DAA then adjusts. -/
theorem decimalArithmetic : Obligations.DecimalArithmetic := by
  unfold Obligations.DecimalArithmetic
  intro s x y hx hy ha cin
  obtain ⟨p, q, hp, hq, rfl⟩ := exists_digits hx
  obtain ⟨r, u, hr, hu, rfl⟩ := exists_digits hy
  have hcarry : (if s.fC then 1 else 0) = cin := rfl
  have hc : cin ≤ 1 := by rw [← hcarry]; split <;> decide
  have hA : s.a.toNat = p * 16 + q := ha ▸ bcdByte_toNat hp hq
  have hB := bcdByte_toNat hr hu
  have hlowA : (p * 16 + q) % 16 = q := by omega
  have hlowB : (r * 16 + u) % 16 = u := by omega
  obtain ⟨-, -, -, -, -, hadc⟩ := addWithAndWithoutCarry s .a (bcdByte (10 * r + u))
  obtain ⟨-, -, -, -, -, hsbc, -⟩ := subtractAndCompare s .a (bcdByte (10 * r + u))
  beta_reduce at hadc hsbc
  rw [hA, hB, hlowA, hlowB, hcarry] at hadc hsbc
  refine ⟨⟨_, _, hadc, exec_daa_of_eq ?sum ?carry, rfl, rfl⟩, ⟨_, _, hsbc, exec_daa_of_eq ?difference ?borrow, rfl, rfl⟩⟩
  case sum =>
    rw [daa_fst_of_add _ rfl]
    refine ofNat_eq_bcdByte (Eq.trans ?_ (daa_sum_toNat hp hq hr hu hc rfl))
    simp only [State.flags, BitVec.toNat_ofNat, decide_eq_true_eq]
  case carry =>
    rw [daa_carry_of_add _ rfl]
    simp only [State.flags, BitVec.toNat_ofNat, ← Bool.decide_or]
    exact decide_eq_decide.2 (by omega)
  case difference =>
    rw [daa_fst_of_sub _ rfl]
    refine ofNat_eq_bcdByte (Eq.trans ?_ (daa_difference_toNat hp hq hr hu hc rfl))
    simp only [State.flags, BitVec.toNat_ofNat, decide_eq_true_eq]
  case borrow =>
    rw [daa_carry_of_sub _ rfl]
    exact decide_eq_decide.2 (by omega)

/-- Settles O29: the two bytes pushed are read back (`Bus.read_write_write_below`), so the pop writes the pushed pair. -/
theorem pushPopRoundTrip : Obligations.PushPopRoundTrip := by
  unfold Obligations.PushPopRoundTrip
  intro s p q hb h1 h2
  obtain ⟨hhi, hlo⟩ := s.bus.read_write_write_below s.sp (hiByte (s.getStackPair p)) (loByte (s.getStackPair p)) hb h1 h2
  obtain ⟨t, hpush, hsp, hbus, hpair⟩ : ∃ t, exec (.push p) s = .next t ∧ t.sp = s.sp - 2#16 ∧
      t.bus = (s.bus.write (s.sp - 1#16) (hiByte (s.getStackPair p))).write (s.sp - 2#16) (loByte (s.getStackPair p)) ∧
      ∀ q', t.getStackPair q' = s.getStackPair q' :=
    ⟨_, exec_push_of_getStackPair_eq (joinBytes_hiByte_loByte _).symm, rfl, rfl, fun q' => by cases q' <;> rfl⟩
  rw [← hbus] at hhi hlo
  have hpop : t.popValue = s.getStackPair p := by
    have habove : s.sp - 2#16 + 1#16 = s.sp - 1#16 := by bv_omega
    rw [State.popValue, hsp, habove, State.read, State.read, hhi, hlo, joinBytes_hiByte_loByte]
  have hother (q' : StackPair) (hq : q' ≠ q) : (popPair q t).getStackPair q' = s.getStackPair q' :=
    (t.popSp.getStackPair_setStackPair_of_ne _ hq).trans (hpair q')
  have hself : (popPair q t).getStackPair q = if q = .af then s.getStackPair p &&& 0xFFF0#16 else s.getStackPair p :=
    hpop ▸ t.popSp.getStackPair_setStackPair_self q _
  have hread (x : Word) : (popPair q t).read x = t.bus.read x := t.popSp.read_setStackPair q _ x
  refine ⟨t, popPair q t, hpush, exec_pop q t, hself, ?_, ?_, hother, (hread _).trans hhi, (hread _).trans hlo⟩
  · by_cases hpq : p = q
    · subst hpq
      rw [hself]
      split
      case isTrue haf => rw [haf, s.getStackPair_af_and]
      case isFalse => rfl
    · exact hother p hpq
  · calc (popPair q t).sp
      _ = t.sp + 2#16 := t.popSp.setStackPair_sp q _
      _ = s.sp := by rw [hsp]; bv_omega
end
